-- ==== Sys2Proof/Word.lean ====
section
/-! DEFINITION. The two widths FSYNC computes with: bytes of the input stream and 16-bit words. -/

namespace Sys2Proof

/-- A byte of the input stream, 8 bits unsigned (00_scope.md R6 "byte width", R8). -/
abbrev Byte := BitVec 8

/-- A 16-bit unsigned word: a payload word, the length, the count, the checksum, a decode word (R8). -/
abbrev Word := BitVec 16

end Sys2Proof
end

