-- ==== Sys2Proof/Config.lean ====
section
/-! DEFINITION. What an instance of FSYNC fixes (00_scope.md R6, R7), the inputs of one cycle, and the free draws. -/

namespace Sys2Proof

namespace Config

/-- `MAGIC0` (00_scope.md R6). -/
@[simp] def magic0 : Byte := 0x42#8

/-- `MAGIC1` (00_scope.md R6). -/
@[simp] def magic1 : Byte := 0x4D#8

/-- `CSUM_BASE` = 0x42 + 0x4D + 28 (00_scope.md R6, 30_encoding.md R68; 90_conflicts.md C3: the constant formula). -/
@[simp] def csumBase : Word := 0x00AB#16

/-- `CSUM_SPAN`: how many leading body bytes are summed (00_scope.md R6). -/
@[simp] abbrev csumSpan : Nat := 26

/-- `BODY_LEN`: the only body length that yields 14 words (00_scope.md R6). -/
@[simp] abbrev bodyLen : Nat := 28

/-- `TS_W`, OPEN (00_scope.md R7, 92_eei_decisions.md D9): a positive width of which nothing more is known (log 6). -/
opaque tsW : PNat

/-- `TS_W` as a natural number. -/
abbrev tsWidth : Nat := tsW.val

end Config

/-- A timestamp: `TS_W` bits whose encoding is the platform's (10_state.md R24). -/
abbrev Timestamp := BitVec Config.tsWidth

/-- `LEN_POLICY`: what becomes of a frame whose length field is not 28 (00_scope.md R7, 92_eei_decisions.md D5). -/
inductive LenPolicy where
  /-- drop the frame silently: the spec's default -/
  | discard
  /-- raise fault LENGTH -/
  | fault
deriving DecidableEq, Repr

/-- The environment's choices in one cycle (20_memory.md R36, R41, R50; 70_reset_and_hazards.md R140). -/
structure CycleInput where
  /-- the reset input `rst` (R128) -/
  rst : Bool
  /-- the link-error input `link_err` (R111) -/
  linkErr : Bool
  /-- whether the upstream presents the oldest byte of the sequence in this cycle, if there is one (R38, R50) -/
  present : Bool
  /-- what `rx_data` carries while no byte is presented; no operation reads it (log 4) -/
  idleData : Byte
  /-- the consumer's `out_ready` (R41, R50) -/
  outReady : Bool
  /-- the wall clock's `ts_in` (R24, R122) -/
  tsIn : Timestamp
  /-- how many bytes a flush in this cycle discards beyond the consumed one, bounded by what remains (R39) -/
  flushDraw : Nat
deriving DecidableEq, Repr, Inhabited

/-- FREE: the environment's choices in cycle `n` where no script gives them (log 2). Nothing is known of them. -/
opaque Config.freeInput : Nat → CycleInput

end Sys2Proof
end

