-- ==== Sys2Proof/Syntax.lean ====
section
/-! DEFINITION. The codes of the state register and the 18 operations of the decode table (spec/opcode_table.json). -/

namespace Sys2Proof

/-- The nine defined values of the state register `st` (10_state.md R16). The reserved codes have no value here,
as R18 asks of a model's state type (log 8). -/
inductive StCode where
  /-- awaiting the first byte of a magic pair -/
  | sM0
  /-- awaiting the second byte of a magic pair -/
  | sM1
  /-- awaiting the high byte of the length field -/
  | sL0
  /-- awaiting the low byte of the length field -/
  | sL1
  /-- awaiting body byte number `cnt` -/
  | sBody
  /-- checking that the body held exactly 14 words -/
  | sVlen
  /-- comparing word 13 with the computed checksum -/
  | sVsum
  /-- presenting the output record -/
  | sEmit
  /-- stopped by a fault until reset -/
  | sFault
deriving DecidableEq, Repr

/-- The operations, one per row of the decode table of 30_encoding.md R66, in its order but for the two pairs
LEN_LO/LEN_LO_ZERO and BODY_BYTE/BODY_LAST. `b` is the byte operand `W[7:0]` (R68). Where one value of `b` under a set
qualifier belongs to the row before, the qualifier bit `W[8]` is an operand too. -/
inductive Instr where
  /-- RESET, row 1 (R128) -/
  | reset
  /-- LINK_FAULT, row 2 (R111) -/
  | linkFault
  /-- RX_WAIT, row 3 (R79) -/
  | rxWait
  /-- M0_CAPTURE, row 4 (R80) -/
  | m0Capture (b : Byte)
  /-- M1_MATCH, row 5 (R81): its byte is 0x4D and its qualifier 1 by the decode -/
  | m1Match
  /-- M1_MISMATCH, row 6 (R82): operands `m0ok` (the qualifier) and `b` -/
  | m1Mismatch (m0ok : Bool) (b : Byte)
  /-- LEN_HI, row 7 (R87) -/
  | lenHi (b : Byte)
  /-- LEN_LO, row 9 (R88): operands `len[15:8] == 0` (the qualifier) and `b` -/
  | lenLo (hiZero : Bool) (b : Byte)
  /-- LEN_LO_ZERO, row 8 (R89): its byte is 0x00 and its qualifier 1 by the decode -/
  | lenLoZero
  /-- BODY_BYTE, row 11 (R96) -/
  | bodyByte (b : Byte)
  /-- BODY_LAST, row 10 (R97) -/
  | bodyLast (b : Byte)
  /-- VLEN_OK, row 12 (R101) -/
  | vlenOk
  /-- VLEN_BAD, row 13 (R102) -/
  | vlenBad
  /-- VSUM_OK, row 14 (R105) -/
  | vsumOk
  /-- VSUM_BAD, row 15 (R106) -/
  | vsumBad
  /-- EMIT_DONE, row 16 (R109) -/
  | emitDone
  /-- EMIT_HOLD, row 17 (R108) -/
  | emitHold
  /-- FAULT_HOLD, row 18 (R114) -/
  | faultHold
deriving DecidableEq, Repr

end Sys2Proof
end

