-- ==== Sys2Proof/WellFormed.lean ====
section
/-! DEFINITION. Which operand values an operation can have: those whose decode word belongs to its own row. -/

namespace Sys2Proof

/-- An operation is well formed when its operands leave its word in its own row of the decode table (30_encoding.md
R66): row 6 is "not row 5" (the magic pair), row 9 is "not row 8" (the zero length). -/
def Instr.wellFormed : Instr → Bool
  | .m1Mismatch m0ok b => !(m0ok && b == 0x4D#8)
  | .lenLo hiZero b => !(hiZero && b == 0x00#8)
  | .reset | .linkFault | .rxWait | .m0Capture _ | .m1Match | .lenHi _ | .lenLoZero
  | .bodyByte _ | .bodyLast _ | .vlenOk | .vlenBad | .vsumOk | .vsumBad
  | .emitDone | .emitHold | .faultHold => true

/-- `wellFormed` as a proposition. -/
abbrev Instr.WellFormed (i : Instr) : Prop := i.wellFormed = true

end Sys2Proof
end

