-- ==== Sys2Proof/Decode.lean ====
section
/-! DEFINITION. The decode word (30_encoding.md R63), the decode table (R66), the decoder, and after it the encoder. -/

namespace Sys2Proof

/-- The code of a state (10_state.md R16). -/
def StCode.code : StCode → BitVec 4
  | .sM0 => 0x0#4
  | .sM1 => 0x1#4
  | .sL0 => 0x2#4
  | .sL1 => 0x3#4
  | .sBody => 0x4#4
  | .sVlen => 0x8#4
  | .sVsum => 0x9#4
  | .sEmit => 0xA#4
  | .sFault => 0xF#4

/-- The state a code stands for; a reserved code is treated as `S_FAULT` (10_state.md R18). -/
def StCode.ofCode (c : BitVec 4) : StCode :=
  if c = 0x0#4 then .sM0
  else if c = 0x1#4 then .sM1
  else if c = 0x2#4 then .sL0
  else if c = 0x3#4 then .sL1
  else if c = 0x4#4 then .sBody
  else if c = 0x8#4 then .sVlen
  else if c = 0x9#4 then .sVsum
  else if c = 0xA#4 then .sEmit
  else .sFault

/-- `st` is one of the consuming states, those with `st[3] == 0` (10_state.md R17). -/
def StCode.consuming (c : StCode) : Bool := !c.code.getLsbD 3

/-- The reserved state codes (10_state.md R18, 30_encoding.md R71). -/
def reservedCode (c : BitVec 4) : Bool :=
  c == 0x5#4 || c == 0x6#4 || c == 0x7#4 || c == 0xB#4 || c == 0xC#4 || c == 0xD#4 || c == 0xE#4

/-- The decode word from its fields, most significant first (30_encoding.md R63). -/
def mkWord (rst linkErr rxValid : Bool) (st : BitVec 4) (q : Bool) (b : Byte) : Word :=
  BitVec.ofBool rst ++ BitVec.ofBool linkErr ++ BitVec.ofBool rxValid ++ st ++ BitVec.ofBool q ++ b

/-- `W[15]` (R63). -/
def wordRst (w : Word) : Bool := w.getLsbD 15

/-- `W[14]` (R63). -/
def wordLinkErr (w : Word) : Bool := w.getLsbD 14

/-- `W[13]` (R63). -/
def wordRxValid (w : Word) : Bool := w.getLsbD 13

/-- `W[12:9]` (R63). -/
def wordSt (w : Word) : BitVec 4 := w.extractLsb' 9 4

/-- `W[8]` (R63). -/
def wordQ (w : Word) : Bool := w.getLsbD 8

/-- `W[7:0]` (R63, R68). -/
def wordByte (w : Word) : Byte := w.extractLsb' 0 8

/-- A row of the decode table: it applies to `w` when `(w & mask) == pattern` (R63, R66). -/
structure DecodeRow where
  /-- the row's name in spec/opcode_table.json -/
  mnemonic : String
  /-- the column "match" -/
  pattern : Word
  /-- the column "mask" -/
  mask : Word
  /-- the operation, with its operands taken from the word -/
  op : Word → Instr

/-- The row applies to the word (R63). -/
def DecodeRow.hits (r : DecodeRow) (w : Word) : Bool := w &&& r.mask == r.pattern

/-- The decode table in priority order (30_encoding.md R66). -/
def decodeTable : List DecodeRow :=
  [ ⟨"RESET",       0x8000#16, 0x8000#16, fun _ => .reset⟩,
    ⟨"LINK_FAULT",  0x4000#16, 0xD000#16, fun _ => .linkFault⟩,
    ⟨"RX_WAIT",     0x0000#16, 0xF000#16, fun _ => .rxWait⟩,
    ⟨"M0_CAPTURE",  0x2000#16, 0xFE00#16, fun w => .m0Capture (wordByte w)⟩,
    ⟨"M1_MATCH",    0x234D#16, 0xFFFF#16, fun _ => .m1Match⟩,
    ⟨"M1_MISMATCH", 0x2200#16, 0xFE00#16, fun w => .m1Mismatch (wordQ w) (wordByte w)⟩,
    ⟨"LEN_HI",      0x2400#16, 0xFE00#16, fun w => .lenHi (wordByte w)⟩,
    ⟨"LEN_LO_ZERO", 0x2700#16, 0xFFFF#16, fun _ => .lenLoZero⟩,
    ⟨"LEN_LO",      0x2600#16, 0xFE00#16, fun w => .lenLo (wordQ w) (wordByte w)⟩,
    ⟨"BODY_LAST",   0x2900#16, 0xFF00#16, fun w => .bodyLast (wordByte w)⟩,
    ⟨"BODY_BYTE",   0x2800#16, 0xFF00#16, fun w => .bodyByte (wordByte w)⟩,
    ⟨"VLEN_OK",     0x1100#16, 0x9F00#16, fun _ => .vlenOk⟩,
    ⟨"VLEN_BAD",    0x1000#16, 0x9F00#16, fun _ => .vlenBad⟩,
    ⟨"VSUM_OK",     0x1300#16, 0x9F00#16, fun _ => .vsumOk⟩,
    ⟨"VSUM_BAD",    0x1200#16, 0x9F00#16, fun _ => .vsumBad⟩,
    ⟨"EMIT_DONE",   0x1500#16, 0x9F00#16, fun _ => .emitDone⟩,
    ⟨"EMIT_HOLD",   0x1400#16, 0x9F00#16, fun _ => .emitHold⟩,
    ⟨"FAULT_HOLD",  0x1E00#16, 0x9E00#16, fun _ => .faultHold⟩ ]

/-- The first row that applies to the word (R66). -/
def firstRow (w : Word) : Option DecodeRow := decodeTable.find? (·.hits w)

/-- The operation a decode word selects: the first matching row; a word with a reserved state code, unless RESET takes
it, and a word that matches no row are FAULT_HOLD (10_state.md R18, 30_encoding.md R66, R78). -/
def decode (w : Word) : Instr :=
  if reservedCode (wordSt w) && !wordRst w then .faultHold
  else
    match firstRow w with
    | some r => r.op w
    | none => .faultHold

/-- Why a row of bits is no decode word. -/
inductive DecodeError where
  /-- it has more than the decode word's 16 bits (R63) -/
  | widerThanTheDecodeWord
deriving DecidableEq, Repr

/-- The operation read from `nbits` given bits `w`, the bits above them zero: total, rejecting by name (R63). -/
def decodeBits (nbits w : Nat) : Except DecodeError Instr :=
  if nbits ≤ 16 then .ok (decode (BitVec.ofNat 16 (w % 2 ^ nbits))) else .error .widerThanTheDecodeWord

/-- The operation the decoder reads from a row of spec/opcode_table.json whose bits are `w`. The decode word is ONE 16-bit
word formed by wires, so it has no byte order of its own (R63). -/
def decodeTableWord (nbits w : Nat) : Option Instr :=
  match decodeBits nbits w with
  | .ok i => some i
  | .error _ => none

/-- The decode word of an operation (R63, R66): its row's pattern with the operands in place; bits the row's mask leaves
out and no operand fills are 0 (log 14). -/
def encode : Instr → Word
  | .reset => 0x8000#16
  | .linkFault => 0x4000#16
  | .rxWait => 0x0000#16
  | .m0Capture b => 0x20#8 ++ b
  | .m1Match => 0x234D#16
  | .m1Mismatch m0ok b => 0x11#7 ++ BitVec.ofBool m0ok ++ b
  | .lenHi b => 0x24#8 ++ b
  | .lenLo hiZero b => 0x13#7 ++ BitVec.ofBool hiZero ++ b
  | .lenLoZero => 0x2700#16
  | .bodyByte b => 0x28#8 ++ b
  | .bodyLast b => 0x29#8 ++ b
  | .vlenOk => 0x1100#16
  | .vlenBad => 0x1000#16
  | .vsumOk => 0x1300#16
  | .vsumBad => 0x1200#16
  | .emitDone => 0x1500#16
  | .emitHold => 0x1400#16
  | .faultHold => 0x1E00#16

/-- The name of an operation, as traces write it (30_encoding.md R66, R75). -/
def Instr.mnemonic : Instr → String
  | .reset => "RESET"
  | .linkFault => "LINK_FAULT"
  | .rxWait => "RX_WAIT"
  | .m0Capture _ => "M0_CAPTURE"
  | .m1Match => "M1_MATCH"
  | .m1Mismatch _ _ => "M1_MISMATCH"
  | .lenHi _ => "LEN_HI"
  | .lenLo _ _ => "LEN_LO"
  | .lenLoZero => "LEN_LO_ZERO"
  | .bodyByte _ => "BODY_BYTE"
  | .bodyLast _ => "BODY_LAST"
  | .vlenOk => "VLEN_OK"
  | .vlenBad => "VLEN_BAD"
  | .vsumOk => "VSUM_OK"
  | .vsumBad => "VSUM_BAD"
  | .emitDone => "EMIT_DONE"
  | .emitHold => "EMIT_HOLD"
  | .faultHold => "FAULT_HOLD"

/-- The number of an operation's row, its priority (30_encoding.md R66). -/
def Instr.priority : Instr → Nat
  | .reset => 1
  | .linkFault => 2
  | .rxWait => 3
  | .m0Capture _ => 4
  | .m1Match => 5
  | .m1Mismatch _ _ => 6
  | .lenHi _ => 7
  | .lenLoZero => 8
  | .lenLo _ _ => 9
  | .bodyLast _ => 10
  | .bodyByte _ => 11
  | .vlenOk => 12
  | .vlenBad => 13
  | .vsumOk => 14
  | .vsumBad => 15
  | .emitDone => 16
  | .emitHold => 17
  | .faultHold => 18

/-- The row of the decode table an operation belongs to (R66). -/
def Instr.row (i : Instr) : Option DecodeRow := decodeTable[i.priority - 1]?

/-- The four classes of operations (30_encoding.md R65). -/
inductive OpClass where
  | reset | byteConsuming | nonConsuming | hold
deriving DecidableEq, Repr

/-- The class of an operation (30_encoding.md R65). -/
def Instr.opClass : Instr → OpClass
  | .reset => .reset
  | .m0Capture _ | .m1Match | .m1Mismatch _ _ | .lenHi _ | .lenLo _ _ | .lenLoZero | .bodyByte _ | .bodyLast _ =>
    .byteConsuming
  | .linkFault | .vlenOk | .vlenBad | .vsumOk | .vsumBad | .emitDone => .nonConsuming
  | .rxWait | .emitHold | .faultHold => .hold

end Sys2Proof
end

