-- ==== Sys2Proof/Machine/State.lean ====
section
/-! DEFINITION. The state of FSYNC (10_state.md R15), its parameters, the environment's side of its interface, what an
observer has seen, the reasons a step can stop, and the state right after reset. -/

namespace Sys2Proof.Machine

/-- `fault_code` (10_state.md R25): why FSYNC is in `S_FAULT`, or none. Code 3 is never produced and has no value here
(93_implementation_defined.md U10; log 16). -/
inductive FaultCode where
  /-- 0, NONE: no fault since reset -/
  | none
  /-- 1, LINK: the link reported a failure -/
  | link
  /-- 2, LENGTH: a frame's length field was not 28, under LEN_POLICY = FAULT -/
  | length
deriving DecidableEq, Repr

/-- An output record: payload words 0 to 11 and the timestamp (20_memory.md R41, 43_validate.md R107). -/
structure Record where
  /-- `out_fields[0..11]` -/
  fields : Vector Word 12
  /-- `out_ts` -/
  ts : Timestamp
deriving DecidableEq, Repr

/-- What a run lets an observer see (70_reset_and_hazards.md R139). -/
inductive Observation where
  /-- EMIT_DONE transferred the record to the consumer (R42) -/
  | record (r : Record)
  /-- `rx_flush` was 1 for a cycle (R39) -/
  | flushPulse
  /-- `fault` rose with the code (R113) -/
  | faultRose (c : FaultCode)
deriving DecidableEq, Repr

/-- FSYNC's registers (`st` to `faultCode`: exactly the table of 10_state.md R15), the static parameter LEN_POLICY
(00_scope.md R7), and three fields of the MODEL's own that stand for the environment: the input byte sequence, the
inputs of the coming cycles with the number of this one, and what an observer has seen. -/
structure State where
  /-- `st`, the state register (R16) -/
  st : StCode
  /-- `m0ok`: the first byte of the current pair was 0x42 (R19) -/
  m0ok : Bool
  /-- `len`: the length field of the current frame (R21) -/
  len : Word
  /-- `cnt`: body bytes consumed so far in the current frame (R22) -/
  cnt : Word
  /-- `csum`: the running computed checksum (R23) -/
  csum : Word
  /-- `fld[0..13]`: the payload words of the current frame (R20) -/
  fld : Vector Word 14
  /-- `ts`: the timestamp captured when the current frame was accepted (R24) -/
  ts : Timestamp
  /-- `fault_code` (R25) -/
  faultCode : FaultCode
  /-- `LEN_POLICY`, fixed when FSYNC is built (R7, R27): no operation writes it (log 7) -/
  lenPolicy : LenPolicy
  /-- the input bytes not yet consumed or flushed, oldest first (20_memory.md R38; log 3) -/
  rx : List Byte
  /-- the inputs of the coming cycles, this cycle's first (log 2) -/
  env : List CycleInput
  /-- the number of this cycle; it indexes the free draws once `env` is used up (log 2) -/
  cycle : Nat
  /-- what the observer has seen, oldest first (70_reset_and_hazards.md R139; log 9) -/
  observed : List Observation
deriving DecidableEq, Repr

/-- The ways the MODEL stops. FSYNC's own faults are no stops: FSYNC goes on in `S_FAULT` (60_exceptions.md R114). -/
inductive Fault where
  /-- Raised by the meaning of a byte-consuming operation called on a state that presents no byte: `RxPop()` "may be
  used only when `rx_valid == 1`" (00_scope.md R9). No step reaches it. Safe. -/
  | rxPopWithoutByte
deriving DecidableEq, Repr

/-- The reasons for which the model gives no meaning. -/
inductive Refusal where
  /-- An arm of `exec` that has no meaning yet. No arm raises it. Safe. -/
  | notModelled (mnemonic : String)
deriving DecidableEq, Repr

/-- The machine right after power-up and RESET (10_state.md R31, 70_reset_and_hazards.md R128): `st` and `fault_code` at
the values the spec states. The spec states no value for the data registers; zero is the model's choice (log 1).
LEN_POLICY is at its default (R7). Nothing is scripted and no byte has been delivered (log 2, log 13). -/
def State.reset : State where
  st := .sM0
  m0ok := false
  len := 0#16
  cnt := 0#16
  csum := 0#16
  fld := Vector.replicate 14 0#16
  ts := 0#_
  faultCode := .none
  lenPolicy := .discard
  rx := []
  env := []
  cycle := 0
  observed := []

end Sys2Proof.Machine
end

