-- ==== Sys2Proof/Machine/Operands.lean ====
section
/-! DEFINITION. How operands are assembled (30_encoding.md R68): byte placement in 16-bit words, the field unpacker and
the checksum engine. -/

namespace Sys2Proof.Machine

/-- `w[15:8]`. -/
def hiByte (w : Word) : Byte := w.extractLsb' 8 8

/-- `w[7:0]`. -/
def loByte (w : Word) : Byte := w.extractLsb' 0 8

/-- `w` with `w[15:8] <- b` (00_scope.md R9). -/
def setHiByte (w : Word) (b : Byte) : Word := b ++ loByte w

/-- `w` with `w[7:0] <- b`. -/
def setLoByte (w : Word) (b : Byte) : Word := hiByte w ++ b

/-- The field unpacker (42_body.md R92): body byte number `i` goes into the high byte of `fld[i >> 1]` when `i` is even,
the low byte when `i` is odd; a byte with number 28 or more is not stored (R95). -/
def storeBodyByte (fld : Vector Word 14) (i : Nat) (b : Byte) : Vector Word 14 :=
  if h : i < 28 then
    fld.set (i / 2) (if i % 2 = 0 then setHiByte fld[i / 2] b else setLoByte fld[i / 2] b)
  else fld

/-- The checksum engine (42_body.md R94): bytes with number below 26 are added, the others are not. -/
def sumBodyByte (csum : Word) (i : Nat) (b : Byte) : Word :=
  if i < Config.csumSpan then csum + b.setWidth 16 else csum

/-- Body byte number `i` as the field file holds it, big-endian (20_memory.md R44); 0 beyond the file. -/
def bodyByteAt (fld : Vector Word 14) (i : Nat) : Byte :=
  if h : i < 28 then (if i % 2 = 0 then hiByte fld[i / 2] else loByte fld[i / 2]) else 0#8

/-- The integer sum of the first `n` bytes of the field file. -/
def byteSum (fld : Vector Word 14) : Nat → Nat
  | 0 => 0
  | n + 1 => byteSum fld n + (bodyByteAt fld n).toNat

/-- `out_fields[0..11]`: words 0 to 11 of the field file (43_validate.md R107). -/
def outWords (fld : Vector Word 14) : Vector Word 12 :=
  #v[fld[0], fld[1], fld[2], fld[3], fld[4], fld[5], fld[6], fld[7], fld[8], fld[9], fld[10], fld[11]]

/-- The two-bit code of `fault_code` (10_state.md R25). -/
def FaultCode.code : FaultCode → BitVec 2
  | .none => 0#2
  | .link => 1#2
  | .length => 2#2

end Sys2Proof.Machine
end

