-- ==== Sys2Proof/Machine/Ops.lean ====
section
/-! DEFINITION. The named operations over the interface and the registers (00_scope.md R9): the inputs of the cycle,
RxPop, RxFlush, Emit, fault entry and, beside it, the only way out of a fault. -/

namespace Sys2Proof.Machine

/-- The inputs `j` cycles ahead: scripted, or free once the script is used up (log 2). -/
def State.inputsAt (s : State) (j : Nat) : CycleInput :=
  match s.env[j]? with
  | some x => x
  | none => Config.freeInput (s.cycle + j)

/-- The inputs of this cycle. -/
def State.inputs (s : State) : CycleInput := s.inputsAt 0

/-- `rx_valid` (20_memory.md R36): there is a byte, and the upstream presents it in this cycle. -/
def State.rxValid (s : State) : Bool := s.inputs.present && !s.rx.isEmpty

/-- `rx_data` (20_memory.md R36): the oldest byte while one is presented; otherwise whatever the wires carry (log 4). -/
def State.rxData (s : State) : Byte :=
  match s.inputs.present, s.rx with
  | true, b :: _ => b
  | _, _ => s.inputs.idleData

/-- `RxPop()` (00_scope.md R9, 20_memory.md R37): the presented byte leaves the upstream buffer. -/
def State.rxPop (s : State) : State := { s with rx := s.rx.tail }

/-- A byte-consuming operation: it may be used only when `rx_valid == 1` (R9); it pops the byte and has its effect. -/
def consumeByte (s : State) (effect : State → State) : Host.Outcome State Fault Refusal :=
  if s.rxValid then .next (effect s.rxPop) else .fault .rxPopWithoutByte

/-- `RxFlush()` (20_memory.md R39): the remaining sequence `r` becomes `drop(k, r)`, `k` this cycle's flush draw, and the
pulse is seen. A draw beyond the sequence drops all of it (log 5). -/
def State.rxFlush (s : State) : State :=
  { s with rx := s.rx.drop s.inputs.flushDraw, observed := s.observed ++ [.flushPulse] }

/-- The record presented in `S_EMIT` (43_validate.md R107). -/
def State.record (s : State) : Record := { fields := outWords s.fld, ts := s.ts }

/-- `Emit()` (20_memory.md R42): the record is transferred to the consumer. -/
def State.emit (s : State) : State := { s with observed := s.observed ++ [.record s.record] }

/-- `raise Fault(c)` (60_exceptions.md R113): it writes `fault_code` and `st` and no other register; `fault` rises. -/
def State.raiseFault (s : State) (c : FaultCode) : State :=
  { s with faultCode := c, st := .sFault, observed := s.observed ++ [.faultRose c] }

/-- Reset, the only way out of `S_FAULT` (60_exceptions.md R117, 70_reset_and_hazards.md R128): it writes `st` and
`fault_code`; the data registers and the upstream bytes stay (R129). -/
def State.resetRegs (s : State) : State := { s with st := .sM0, faultCode := .none }

/-- A body byte enters the datapaths (42_body.md R92 to R95): stored, summed and counted, under its number `cnt`. -/
def State.takeBodyByte (s : State) (b : Byte) : State :=
  { s with
    fld := storeBodyByte s.fld s.cnt.toNat b
    csum := sumBodyByte s.csum s.cnt.toNat b
    cnt := s.cnt + 1#16 }

/-- The length low byte arrives: `len[7:0] <- b`, and the body count and the checksum start (41_length.md R88, R89). -/
def State.startBody (s : State) (b : Byte) : State :=
  { s with len := setLoByte s.len b, cnt := 0#16, csum := Config.csumBase }

/-- The cycle ends: the next cycle's inputs stand first (00_scope.md R10; log 2). -/
def State.tick (s : State) : State := { s with env := s.env.tail, cycle := s.cycle + 1 }

/-- The end of the cycle after an operation's outcome. -/
def endCycle : Host.Outcome State Fault Refusal → Host.Outcome State Fault Refusal
  | .next s => .next s.tick
  | .fault r => .fault r
  | .refused r => .refused r

end Sys2Proof.Machine
end

