-- ==== Sys2Proof/Machine/Body.lean ====
section
/-! DEFINITION. The body reader: BODY_BYTE, BODY_LAST (42_body.md). -/

namespace Sys2Proof.Machine

/-- BODY_BYTE (42_body.md R96): a body byte that is not the last one. -/
def execBodyByte (b : Byte) (s : State) : Host.Outcome State Fault Refusal :=
  consumeByte s fun t => t.takeBodyByte b

/-- BODY_LAST (42_body.md R97): the last body byte; validation follows. -/
def execBodyLast (b : Byte) (s : State) : Host.Outcome State Fault Refusal :=
  consumeByte s fun t => { t.takeBodyByte b with st := .sVlen }

end Sys2Proof.Machine
end

