-- ==== Sys2Proof/Machine/Length.lean ====
section
/-! DEFINITION. The length parser: LEN_HI, LEN_LO, LEN_LO_ZERO (41_length.md). -/

namespace Sys2Proof.Machine

/-- LEN_HI (41_length.md R87): `len <- {b, 0x00}`. -/
def execLenHi (b : Byte) (s : State) : Host.Outcome State Fault Refusal :=
  consumeByte s fun t => { t with len := b ++ 0x00#8, st := .sL1 }

/-- LEN_LO (41_length.md R88): the low byte of a nonzero length; the body starts. -/
def execLenLo (_hiZero : Bool) (b : Byte) (s : State) : Host.Outcome State Fault Refusal :=
  consumeByte s fun t => { t.startBody b with st := .sBody }

/-- LEN_LO_ZERO (41_length.md R89): the length is zero, so there is no body. -/
def execLenLoZero (s : State) : Host.Outcome State Fault Refusal :=
  consumeByte s fun t => { t.startBody 0x00#8 with st := .sVlen }

end Sys2Proof.Machine
end

