-- ==== Sys2Proof/Machine/Flags.lean ====
section
/-! DEFINITION. The status bit `m0ok` and the qualifier of the decode word (10_state.md R26, 30_encoding.md R64). -/

namespace Sys2Proof.Machine

/-- The value M0_CAPTURE gives `m0ok`: the first byte of the pair is 0x42 (40_sync.md R80). -/
def magic0Test (b : Byte) : Bool := b == Config.magic0

/-- `zext_17(cnt) + 1 == zext_17(len)`: the presented byte is the last body byte (30_encoding.md R64, D31). -/
def lastBodyByte (cnt len : Word) : Bool := cnt.setWidth 17 + 1#17 == len.setWidth 17

/-- The qualifier `q`, combinational (30_encoding.md R64); 0 in the states that do not use it. -/
def State.qualifier (s : State) : Bool :=
  match s.st with
  | .sM0 => false
  | .sM1 => s.m0ok
  | .sL0 => false
  | .sL1 => hiByte s.len == 0x00#8
  | .sBody => lastBodyByte s.cnt s.len
  | .sVlen => s.len == BitVec.ofNat 16 Config.bodyLen
  | .sVsum => s.fld[13] == s.csum
  | .sEmit => s.inputs.outReady
  | .sFault => false

end Sys2Proof.Machine
end

