-- ==== Sys2Proof/Machine/Sync.lean ====
section
/-! DEFINITION. The magic-byte detector and resynchroniser: RX_WAIT, M0_CAPTURE, M1_MATCH, M1_MISMATCH (40_sync.md). -/

namespace Sys2Proof.Machine

/-- RX_WAIT (40_sync.md R79): no register changes. -/
def execRxWait (s : State) : Host.Outcome State Fault Refusal := .next s

/-- M0_CAPTURE (40_sync.md R80): take the first byte of a pair; no flush, even when it is not 0x42. -/
def execM0Capture (b : Byte) (s : State) : Host.Outcome State Fault Refusal :=
  consumeByte s fun t => { t with m0ok := magic0Test b, st := .sM1 }

/-- M1_MATCH (40_sync.md R81): the second byte completes the magic pair. -/
def execM1Match (s : State) : Host.Outcome State Fault Refusal :=
  consumeByte s fun t => { t with st := .sL0 }

/-- M1_MISMATCH (40_sync.md R82): consume the byte, flush, restart step 1. -/
def execM1Mismatch (_m0ok : Bool) (_b : Byte) (s : State) : Host.Outcome State Fault Refusal :=
  consumeByte s fun t => { t.rxFlush with st := .sM0 }

end Sys2Proof.Machine
end

