-- ==== Sys2Proof/Machine/System.lean ====
section
/-! DEFINITION. Reset and faults: RESET (70_reset_and_hazards.md), LINK_FAULT, FAULT_HOLD (60_exceptions.md). -/

namespace Sys2Proof.Machine

/-- RESET (70_reset_and_hazards.md R128). -/
def execReset (s : State) : Host.Outcome State Fault Refusal := .next s.resetRegs

/-- LINK_FAULT (60_exceptions.md R111): fault LINK; no byte is consumed and nothing is flushed. -/
def execLinkFault (s : State) : Host.Outcome State Fault Refusal := .next (s.raiseFault .link)

/-- FAULT_HOLD (60_exceptions.md R114): no register changes. -/
def execFaultHold (s : State) : Host.Outcome State Fault Refusal := .next s

end Sys2Proof.Machine
end

