-- ==== Sys2Proof/Machine/Validate.lean ====
section
/-! DEFINITION. Frame validation and output: VLEN_OK, VLEN_BAD, VSUM_OK, VSUM_BAD, EMIT_HOLD, EMIT_DONE (43_validate.md). -/

namespace Sys2Proof.Machine

/-- VLEN_OK (43_validate.md R101): the body held exactly 14 words. -/
def execVlenOk (s : State) : Host.Outcome State Fault Refusal := .next { s with st := .sVsum }

/-- VLEN_BAD (43_validate.md R102): drop the frame silently, or raise fault LENGTH, as LEN_POLICY says; no flush. -/
def execVlenBad (s : State) : Host.Outcome State Fault Refusal :=
  .next (match s.lenPolicy with
    | .discard => { s with st := .sM0 }
    | .fault => s.raiseFault .length)

/-- VSUM_OK (43_validate.md R105): accept the frame and capture `ts_in`. -/
def execVsumOk (s : State) : Host.Outcome State Fault Refusal := .next { s with ts := s.inputs.tsIn, st := .sEmit }

/-- VSUM_BAD (43_validate.md R106): drop the frame silently; no flush. -/
def execVsumBad (s : State) : Host.Outcome State Fault Refusal := .next { s with st := .sM0 }

/-- EMIT_HOLD (43_validate.md R108): the record stays presented. -/
def execEmitHold (s : State) : Host.Outcome State Fault Refusal := .next s

/-- EMIT_DONE (43_validate.md R109): the record is transferred; restart step 1. -/
def execEmitDone (s : State) : Host.Outcome State Fault Refusal := .next { s.emit with st := .sM0 }

end Sys2Proof.Machine
end

