-- ==== Sys2Proof/Machine/Dispatch.lean ====
section
/-! DEFINITION. One arm per operation, each one call of its meaning. -/

namespace Sys2Proof.Machine

/-- The meaning of an operation in a state. -/
def exec (i : Instr) (s : State) : Host.Outcome State Fault Refusal :=
  match i with
  | .reset => Sys2Proof.Machine.execReset s
  | .linkFault => Sys2Proof.Machine.execLinkFault s
  | .rxWait => Sys2Proof.Machine.execRxWait s
  | .m0Capture b => Sys2Proof.Machine.execM0Capture b s
  | .m1Match => Sys2Proof.Machine.execM1Match s
  | .m1Mismatch m0ok b => Sys2Proof.Machine.execM1Mismatch m0ok b s
  | .lenHi b => Sys2Proof.Machine.execLenHi b s
  | .lenLo hiZero b => Sys2Proof.Machine.execLenLo hiZero b s
  | .lenLoZero => Sys2Proof.Machine.execLenLoZero s
  | .bodyByte b => Sys2Proof.Machine.execBodyByte b s
  | .bodyLast b => Sys2Proof.Machine.execBodyLast b s
  | .vlenOk => Sys2Proof.Machine.execVlenOk s
  | .vlenBad => Sys2Proof.Machine.execVlenBad s
  | .vsumOk => Sys2Proof.Machine.execVsumOk s
  | .vsumBad => Sys2Proof.Machine.execVsumBad s
  | .emitDone => Sys2Proof.Machine.execEmitDone s
  | .emitHold => Sys2Proof.Machine.execEmitHold s
  | .faultHold => Sys2Proof.Machine.execFaultHold s

end Sys2Proof.Machine
end

