-- ==== Sys2Proof/Machine/Fetch.lean ====
section
/-! DEFINITION. FSYNC fetches no instructions (20_memory.md R56); what takes the place of a fetch is the decode word it
forms in every cycle (30_encoding.md R63). -/

namespace Sys2Proof.Machine

/-- The decode word `W` of this cycle (30_encoding.md R63). -/
def State.word (s : State) : Word :=
  mkWord s.inputs.rst s.inputs.linkErr s.rxValid s.st.code s.qualifier s.rxData

/-- The operation of this cycle (30_encoding.md R66). -/
def State.operation (s : State) : Instr := decode s.word

/-- The state `s` with its registers and the inputs of a new first cycle set so that FSYNC forms the word `w`. The flush
draw and `ts_in` of that cycle are 0 (log 13). A reserved state code gives `S_FAULT`, as which it behaves (R18). In a
state that does not use the qualifier the word FSYNC forms has `q = 0` and selects the same row. -/
def State.presentWord (s : State) (w : Word) : State :=
  let base : State :=
    { s with
      st := StCode.ofCode (wordSt w)
      rx := if wordRxValid w then wordByte w :: s.rx else s.rx
      env :=
        { rst := wordRst w, linkErr := wordLinkErr w, present := wordRxValid w, idleData := wordByte w,
          outReady := wordQ w, tsIn := 0#_, flushDraw := 0 } :: s.env }
  match base.st with
  | .sM1 => { base with m0ok := wordQ w }
  | .sL1 => { base with len := if wordQ w then 0x0000#16 else 0x0100#16 }
  | .sBody => { base with len := 28#16, cnt := if wordQ w then 27#16 else 0#16 }
  | .sVlen => { base with len := if wordQ w then 28#16 else 0#16 }
  | .sVsum => { base with fld := s.fld.set 13 (if wordQ w then s.csum else s.csum + 1#16) }
  | .sM0 | .sL0 | .sEmit | .sFault => base

end Sys2Proof.Machine
end

