-- ==== Sys2Proof/Machine/Step.lean ====
section
/-! DEFINITION. One clock cycle: form the decode word, perform the operation it selects, end the cycle (00_scope.md R10). -/

namespace Sys2Proof.Machine

/-- One clock cycle of FSYNC (00_scope.md R10, 30_encoding.md R66, R78). -/
def step (s : State) : Host.Outcome State Fault Refusal := endCycle (exec s.operation s)

/-- `s` with registers and inputs such that the next cycle's decode word is the row's bits `w` (log 13). -/
def State.withFetchWord (s : State) (nbits w : Nat) : State := s.presentWord (BitVec.ofNat 16 (w % 2 ^ nbits))

end Sys2Proof.Machine
end

