-- ==== Sys2Proof/Machine/Frame.lean ====
section
/-! DEFINITION. The frame, the byte format FSYNC parses (30_encoding.md R59 to R61, R72, R76). -/

namespace Sys2Proof.Machine

/-- The integer sum of a list of bytes. -/
def sumBytes : List Byte → Nat
  | [] => 0
  | b :: bs => b.toNat + sumBytes bs

/-- The checksum of the summed bytes as an integer: `0x00AB + sum` (30_encoding.md R72, 42_body.md R94). -/
def checksumNat (d : List Byte) : Nat := 0x00AB + sumBytes d

/-- The checksum field that makes 26 data bytes a valid body. -/
def checksumOf (d : List Byte) : Word := BitVec.ofNat 16 (checksumNat d)

/-- The two big-endian bytes of a word (20_memory.md R44). -/
def wordBytes (w : Word) : List Byte := [hiByte w, loByte w]

/-- The bytes of a sequence of words. -/
def wordsBytes : List Word → List Byte
  | [] => []
  | w :: ws => wordBytes w ++ wordsBytes ws

/-- The frame with length field `len` and the given body bytes (30_encoding.md R59). -/
def frameWith (len : Word) (body : List Byte) : List Byte := 0x42#8 :: 0x4D#8 :: wordBytes len ++ body

/-- The frame of 26 data bytes and a checksum field (30_encoding.md R61, R72). -/
def frameOf (data : List Byte) (c : Word) : List Byte := frameWith 0x001C#16 (data ++ wordBytes c)

/-- Payload word `i` of a body: `{body[2i], body[2i+1]}` (20_memory.md R44). -/
def bodyWord (body : List Byte) (i : Nat) : Word := body.getD (2 * i) 0#8 ++ body.getD (2 * i + 1) 0#8

/-- The pseudo-directive `frame` (30_encoding.md R76). -/
def frameDirective (words : List Word) : List Byte := frameOf (wordsBytes words) (checksumOf (wordsBytes words))

/-- The pseudo-directive `frame!`, with the checksum field as given (30_encoding.md R76). -/
def frameBangDirective (words : List Word) (c : Word) : List Byte := frameOf (wordsBytes words) c

/-- The 32 bytes are a frame FSYNC accepts when they begin at a pair position (30_encoding.md R72). -/
def acceptable (bytes : List Byte) : Bool :=
  bytes.length == 32 && bytes.take 4 == [0x42#8, 0x4D#8, 0x00#8, 0x1C#8] &&
    bodyWord (bytes.drop 4) 13 == checksumOf ((bytes.drop 4).take 26)

end Sys2Proof.Machine
end

