-- ==== Sys2Proof/Machine/Outputs.lean ====
section
/-! DEFINITION. The outputs of a cycle as functions of state and operation (10_state.md R29), and the flat record bus
(30_encoding.md R69). -/

namespace Sys2Proof.Machine

/-- FSYNC's outputs in one cycle (20_memory.md R36, R41). `out_fields` and `out_ts` have no value while `out_valid` is 0
(R43; log 17). -/
structure Outputs where
  /-- `rx_ready` -/
  rxReady : Bool
  /-- `rx_flush` -/
  rxFlush : Bool
  /-- `out_valid` -/
  outValid : Bool
  /-- `out_fields[0..11]` -/
  outFields : Option (Vector Word 12)
  /-- `out_ts` -/
  outTs : Option Timestamp
  /-- `fault` -/
  fault : Bool
  /-- `fault_code` -/
  faultCode : BitVec 2
deriving DecidableEq, Repr

/-- The operation flushes: only M1_MISMATCH (10_state.md R29). -/
def flushes : Instr → Bool
  | .m1Mismatch _ _ => true
  | .reset | .linkFault | .rxWait | .m0Capture _ | .m1Match | .lenHi _ | .lenLo _ _ | .lenLoZero
  | .bodyByte _ | .bodyLast _ | .vlenOk | .vlenBad | .vsumOk | .vsumBad
  | .emitDone | .emitHold | .faultHold => false

/-- The outputs in the cycle that starts in `s` (10_state.md R29). -/
def State.outputs (s : State) : Outputs where
  rxReady := s.operation.opClass == .byteConsuming
  rxFlush := flushes s.operation
  outValid := s.st == .sEmit
  outFields := if s.st = .sEmit then some (outWords s.fld) else none
  outTs := if s.st = .sEmit then some s.ts else none
  fault := s.st == .sFault
  faultCode := s.faultCode.code

/-- The flat record bus `out_flat`: word 0 least significant, the timestamp above the 192 bits of the words
(30_encoding.md R69). -/
def Record.flat (r : Record) : BitVec (Config.tsWidth + 192) :=
  r.ts ++ (r.fields[11] ++ r.fields[10] ++ r.fields[9] ++ r.fields[8] ++ r.fields[7] ++ r.fields[6] ++
    r.fields[5] ++ r.fields[4] ++ r.fields[3] ++ r.fields[2] ++ r.fields[1] ++ r.fields[0] : BitVec 192)

/-- The informative labels of the emitted words, word 0 first (30_encoding.md R62; 92_eei_decisions.md D17). No
definition uses them. -/
def fieldLabels : List String :=
  [ "pm1.0 standard concentration", "pm2.5 standard concentration", "pm10 standard concentration",
    "pm1.0 environmental concentration", "pm2.5 environmental concentration", "concentration-unit placeholder",
    "particle bin, 0.3 um cutoff", "particle bin, 0.5 um cutoff", "particle bin, 1.0 um cutoff",
    "particle bin, 2.5 um cutoff", "particle bin, 5.0 um cutoff", "particle bin, 10.0 um cutoff" ]

end Sys2Proof.Machine
end

