-- ==== Sys2Proof/Safety.lean ====
section
/-! DEFINITION. The terms claims are stated in: the invariant, which registers are live, the premises a run makes about
its environment, and quiescence. -/

namespace Sys2Proof.Machine

/-- What the registers of FSYNC satisfy in every cycle from reset on (10_state.md R22, R23, R25, R32; 42_body.md R94,
R97, R98; 43_validate.md R101, R105). -/
structure Inv (s : State) : Prop where
  /-- a fault code exactly while stopped (R25, R115) -/
  code_iff : s.faultCode = .none ↔ s.st ≠ .sFault
  /-- fault LENGTH only under LEN_POLICY = FAULT (R112) -/
  length_needs_policy : s.faultCode = .length → s.lenPolicy = .fault
  /-- the body is not complete while body bytes are awaited (R22) -/
  body_open : s.st = .sBody → s.cnt.toNat < s.len.toNat
  /-- after the body, as many bytes were consumed as the length said (R97) -/
  body_done : s.st = .sVlen ∨ s.st = .sVsum ∨ s.st = .sEmit → s.cnt = s.len
  /-- only frames of length 28 pass the length check (R101) -/
  length_ok : s.st = .sVsum ∨ s.st = .sEmit → s.len = 28#16
  /-- the running checksum is the integer formula over the bytes stored so far (R23, R94, R98) -/
  sum_ok : s.st = .sBody ∨ s.st = .sVlen ∨ s.st = .sVsum ∨ s.st = .sEmit →
    s.csum.toNat = 0x00AB + byteSum s.fld (min s.cnt.toNat 26)
  /-- a presented record passed the comparison (R104, R105) -/
  emit_ok : s.st = .sEmit → s.fld[13] = s.csum

/-- The first `n` bytes of two field files agree. -/
def SameBytes (f g : Vector Word 14) (n : Nat) : Prop := ∀ i, i < n → bodyByteAt f i = bodyByteAt g i

/-- Two states that differ at most in registers no operation reads before writing them (10_state.md R32, R33). -/
structure SameLive (s t : State) : Prop where
  st : s.st = t.st
  faultCode : s.faultCode = t.faultCode
  lenPolicy : s.lenPolicy = t.lenPolicy
  rx : s.rx = t.rx
  env : s.env = t.env
  cycle : s.cycle = t.cycle
  observed : s.observed = t.observed
  /-- `m0ok` is live in `S_M1` -/
  pair : s.st = .sM1 → s.m0ok = t.m0ok
  /-- `len` is live in `S_L1`, `S_BODY`, `S_VLEN` -/
  length : s.st = .sL1 ∨ s.st = .sBody ∨ s.st = .sVlen → s.len = t.len
  /-- `cnt` is live in `S_BODY` -/
  count : s.st = .sBody → s.cnt = t.cnt
  /-- `csum` is live in `S_BODY`, `S_VLEN`, `S_VSUM` -/
  sum : s.st = .sBody ∨ s.st = .sVlen ∨ s.st = .sVsum → s.csum = t.csum
  /-- the bytes stored so far are live in `S_BODY` -/
  bodyBytes : s.st = .sBody → SameBytes s.fld t.fld (min s.cnt.toNat 28)
  /-- the stored bytes of the body are live in `S_VLEN` -/
  allBytes : s.st = .sVlen → SameBytes s.fld t.fld (min s.len.toNat 28)
  /-- the field file is live in `S_VSUM` -/
  words : s.st = .sVsum → s.fld = t.fld
  /-- the record is live in `S_EMIT` -/
  record : s.st = .sEmit → outWords s.fld = outWords t.fld ∧ s.ts = t.ts

/-- The cycle is not reset and the link is up. -/
def Up (x : CycleInput) : Prop := x.rst = false ∧ x.linkErr = false

/-- The cycle is not reset, the link is up, a byte is presented if there is one, and the consumer is ready. -/
def Serving (x : CycleInput) : Prop := x.rst = false ∧ x.linkErr = false ∧ x.present = true ∧ x.outReady = true

/-- The next `n` cycles are served. -/
def ServedFor (s : State) (n : Nat) : Prop := ∀ j, j < n → Serving (s.inputsAt j)

/-- The next `n` cycles bring no reset. -/
def NoResetFor (s : State) (n : Nat) : Prop := ∀ j, j < n → (s.inputsAt j).rst = false

/-- A byte-consuming cycle in state `c`: no reset, the link up, a byte presented ("byte present", 30_encoding.md R66). -/
def BytePresent (s : State) (c : StCode) : Prop :=
  s.st = c ∧ s.inputs.rst = false ∧ s.inputs.linkErr = false ∧ s.rxValid = true

/-- The platform's duty for `link_err` over the next `n` cycles (70_reset_and_hazards.md R137): once high, it stays high
until reset. -/
def LinkErrHeldFor (s : State) (n : Nat) : Prop :=
  ∀ j, j < n → (s.inputsAt j).linkErr = true → (s.inputsAt j).rst = true ∨ (s.inputsAt (j + 1)).linkErr = true

/-- `n` cycles, stopping at the first fault or refusal of the model. -/
def runCycles : Nat → State → Host.Outcome State Fault Refusal
  | 0, s => .next s
  | n + 1, s =>
    match step s with
    | .next t => runCycles n t
    | .fault r => .fault r
    | .refused r => .refused r

/-- `s` after `n` cycles in which nothing but time passes. -/
def State.idle (s : State) (n : Nat) : State := { s with env := s.env.drop n, cycle := s.cycle + n }

/-- The bytes of a body stored in order, the first under number `i` (42_body.md R92, R93). -/
def storeBytes (fld : Vector Word 14) (i : Nat) : List Byte → Vector Word 14
  | [] => fld
  | b :: bs => storeBytes (storeBodyByte fld i b) (i + 1) bs

/-- The bytes of a body summed in order, the first under number `i` (42_body.md R94). -/
def sumBodyBytes (csum : Word) (i : Nat) : List Byte → Word
  | [] => csum
  | b :: bs => sumBodyBytes (sumBodyByte csum i b) (i + 1) bs

/-- The bytes of a list of pairs. -/
def pairBytes : List (Byte × Byte) → List Byte
  | [] => []
  | (a, b) :: ps => a :: b :: pairBytes ps

/-- From this cycle on the consumer never asserts `out_ready` (log 25). -/
def NeverReady (s : State) : Prop := ∀ j, (s.inputsAt j).outReady = false

/-- The cycle that starts in `s` is one a quiescent run ends in (70_reset_and_hazards.md R139): (a) RX_WAIT with the input
exhausted, (b) EMIT_HOLD with a consumer that never asserts `out_ready`, (c) FAULT_HOLD. -/
def Quiescent (s : State) : Prop :=
  (s.operation = .rxWait ∧ s.rx = []) ∨ (s.operation = .emitHold ∧ NeverReady s) ∨ s.operation = .faultHold

/-- The run from `s` of `n` cycles and one last cycle is quiescent (R139). -/
def QuiescentRun (n : Nat) (s : State) : Prop := ∃ t, runCycles n s = .next t ∧ Quiescent t

/-- How many non-consuming cycles remain before step 1 (70_reset_and_hazards.md R142). -/
def drainRank : StCode → Nat
  | .sVlen => 3
  | .sVsum => 2
  | .sEmit => 1
  | .sM0 | .sM1 | .sL0 | .sL1 | .sBody | .sFault => 0

end Sys2Proof.Machine
end

