-- ==== Sys2Proof/Certificates/Slice0/Obligations.lean ====
section
/-! DEFINITION. The statements for the provers, from the numbered rules of spec/ (OBLIGATIONS.json lists them). -/

open Sys2Proof Sys2Proof.Machine

/-! ### Operations: each completes, with its effect and its frame -/

/-- RESET, LINK_FAULT, FAULT_HOLD, RX_WAIT and EMIT_HOLD complete in every state, with the pseudocode's effect and no
other (R128, R111, R114, R79, R108). The entry `faultRose` is the model's record of what is observed (log 9). -/
def Obligations.SystemAndHoldOperationsComplete : Prop :=
  ∀ s : State,
    exec .reset s = .next { s with st := .sM0, faultCode := .none } ∧
    exec .linkFault s =
      .next { s with st := .sFault, faultCode := .link, observed := s.observed ++ [.faultRose .link] } ∧
    exec .faultHold s = .next s ∧
    exec .rxWait s = .next s ∧
    exec .emitHold s = .next s

/-- M0_CAPTURE, M1_MATCH and M1_MISMATCH complete whenever a byte is presented, with the pseudocode's effect and no other
(R80, R81, R82, R39). -/
def Obligations.SynchroniserOperationsComplete : Prop :=
  ∀ (s : State) (q : Bool) (b : Byte), s.rxValid = true →
    exec (.m0Capture b) s = .next { s with m0ok := b == 0x42#8, st := .sM1, rx := s.rx.tail } ∧
    exec .m1Match s = .next { s with st := .sL0, rx := s.rx.tail } ∧
    exec (.m1Mismatch q b) s =
      .next { s with st := .sM0, rx := s.rx.tail.drop s.inputs.flushDraw, observed := s.observed ++ [.flushPulse] }

/-- LEN_HI, LEN_LO and LEN_LO_ZERO complete whenever a byte is presented, with the pseudocode's effect and no other (R87,
R88, R89). -/
def Obligations.LengthOperationsComplete : Prop :=
  ∀ (s : State) (q : Bool) (b : Byte), s.rxValid = true →
    exec (.lenHi b) s = .next { s with len := b ++ 0x00#8, st := .sL1, rx := s.rx.tail } ∧
    exec (.lenLo q b) s =
      .next { s with len := s.len.extractLsb' 8 8 ++ b, cnt := 0#16, csum := 0x00AB#16, st := .sBody,
                     rx := s.rx.tail } ∧
    exec .lenLoZero s =
      .next { s with len := s.len.extractLsb' 8 8 ++ 0x00#8, cnt := 0#16, csum := 0x00AB#16, st := .sVlen,
                     rx := s.rx.tail }

/-- BODY_BYTE and BODY_LAST complete whenever a byte is presented: the byte goes into its place of the field file and into
no other, into the sum when its number is below 26, and is counted; BODY_LAST also goes to `S_VLEN`; every other field
but the input sequence stays (R92, R94, R95, R96, R97). -/
def Obligations.BodyOperationsComplete : Prop :=
  ∀ (s : State) (b : Byte), s.rxValid = true →
    ∃ t, exec (.bodyByte b) s = .next t ∧ exec (.bodyLast b) s = .next { t with st := .sVlen } ∧
      t.cnt = s.cnt + 1#16 ∧
      t.csum = (if s.cnt.toNat < 26 then s.csum + b.setWidth 16 else s.csum) ∧
      (∀ (w : Nat) (hw : w < 14),
        t.fld[w] =
          if s.cnt.toNat / 2 = w then
            (if s.cnt.toNat % 2 = 0 then b ++ s.fld[w].extractLsb' 0 8 else s.fld[w].extractLsb' 8 8 ++ b)
          else s.fld[w]) ∧
      { t with cnt := s.cnt, csum := s.csum, fld := s.fld } = { s with rx := s.rx.tail }

/-- VLEN_OK, VLEN_BAD under either policy, VSUM_OK, VSUM_BAD and EMIT_DONE complete in every state, with the pseudocode's
effect and no other (R101, R102, R105, R106, R109). -/
def Obligations.ValidationOperationsComplete : Prop :=
  ∀ s : State,
    exec .vlenOk s = .next { s with st := .sVsum } ∧
    exec .vlenBad s =
      .next (if s.lenPolicy = .discard then { s with st := .sM0 }
        else { s with st := .sFault, faultCode := .length, observed := s.observed ++ [.faultRose .length] }) ∧
    exec .vsumOk s = .next { s with ts := s.inputs.tsIn, st := .sEmit } ∧
    exec .vsumBad s = .next { s with st := .sM0 } ∧
    ∃ r : Record, exec .emitDone s = .next { s with st := .sM0, observed := s.observed ++ [.record r] } ∧
      r.ts = s.ts ∧ ∀ (i : Nat) (h : i < 12), r.fields[i] = s.fld[i]

/-- The MODEL's choice (log 10): a byte-consuming operation called where no byte is presented, which R9 excludes, stops
by name. -/
def Obligations.RxPopWithoutAByteStops : Prop :=
  ∀ (s : State) (q : Bool) (b : Byte), s.rxValid = false →
    exec (.m0Capture b) s = .fault .rxPopWithoutByte ∧ exec .m1Match s = .fault .rxPopWithoutByte ∧
    exec (.m1Mismatch q b) s = .fault .rxPopWithoutByte ∧ exec (.lenHi b) s = .fault .rxPopWithoutByte ∧
    exec (.lenLo q b) s = .fault .rxPopWithoutByte ∧ exec .lenLoZero s = .fault .rxPopWithoutByte ∧
    exec (.bodyByte b) s = .fault .rxPopWithoutByte ∧ exec (.bodyLast b) s = .fault .rxPopWithoutByte

/-! ### The cycle: word, decode, step -/

/-- One step runs the operation the cycle's decode word decodes to, and ends the cycle: the script advances by one and
the cycle's number rises by one. -/
def Obligations.StepRunsTheDecodedOperation : Prop :=
  ∀ (s : State) (i : Instr), decode s.word = i → i.WellFormed →
    step s =
      match exec i s with
      | .next t => .next { t with env := t.env.tail, cycle := t.cycle + 1 }
      | .fault r => .fault r
      | .refused r => .refused r

/-- R63: the fields of the decode word, and the cycle's operation is that of the first row it matches. -/
def Obligations.DecodeWordCarriesTheCyclesFields : Prop :=
  ∀ s : State,
    s.word.getLsbD 15 = s.inputs.rst ∧ s.word.getLsbD 14 = s.inputs.linkErr ∧ s.word.getLsbD 13 = s.rxValid ∧
    s.word.extractLsb' 9 4 = s.st.code ∧ s.word.getLsbD 8 = s.qualifier ∧ s.word.extractLsb' 0 8 = s.rxData ∧
    ∃ pre r post, decodeTable = pre ++ r :: post ∧ s.word &&& r.mask = r.pattern ∧
      (∀ p ∈ pre, s.word &&& p.mask ≠ p.pattern) ∧ s.operation = r.op s.word

/-- R64: the qualifier in each state. -/
def Obligations.QualifierFollowsItsTable : Prop :=
  ∀ s : State,
    (s.st = .sM0 → s.qualifier = false) ∧
    (s.st = .sM1 → s.qualifier = s.m0ok) ∧
    (s.st = .sL0 → s.qualifier = false) ∧
    (s.st = .sL1 → s.qualifier = (s.len.extractLsb' 8 8 == 0x00#8)) ∧
    (s.st = .sBody → s.qualifier = decide (s.cnt.toNat + 1 = s.len.toNat)) ∧
    (s.st = .sVlen → s.qualifier = (s.len == 28#16)) ∧
    (s.st = .sVsum → s.qualifier = (s.fld[13] == s.csum)) ∧
    (s.st = .sEmit → s.qualifier = s.inputs.outReady) ∧
    (s.st = .sFault → s.qualifier = false)

/-- Words written out from R63 and R66, with the operations R77 and the vectors of 95_test_vectors.md L2.1 give them. -/
def Obligations.SampleWordsDecodeToTheirOperations : Prop :=
  decode 0x2042#16 = .m0Capture 0x42#8 ∧ decode 0x234D#16 = .m1Match ∧ decode 0x224D#16 = .m1Mismatch false 0x4D#8 ∧
  decode 0x6042#16 = .linkFault ∧ decode 0x0800#16 = .rxWait ∧ decode 0x5300#16 = .vsumOk ∧ decode 0x9E00#16 = .reset ∧
  decode 0x24FF#16 = .lenHi 0xFF#8 ∧ decode 0x2701#16 = .lenLo true 0x01#8 ∧ decode 0x2700#16 = .lenLoZero ∧
  decode 0x2942#16 = .bodyLast 0x42#8 ∧ decode 0x2842#16 = .bodyByte 0x42#8 ∧ decode 0x7100#16 = .vlenOk ∧
  decode 0x1000#16 = .vlenBad ∧ decode 0x1200#16 = .vsumBad ∧ decode 0x1500#16 = .emitDone ∧
  decode 0x5400#16 = .emitHold ∧ decode 0x7EFF#16 = .faultHold ∧ decode 0x1600#16 = .faultHold

/-- Every well-formed operation is what its own word decodes to: no operand bit is dropped. -/
def Obligations.DecodeOfEncodeIsTheOperation : Prop := ∀ i : Instr, i.WellFormed → decode (encode i) = i

/-- Every word decodes to a well-formed operation, and that operation's word decodes to it again. -/
def Obligations.DecodedOperationsAreWellFormed : Prop :=
  ∀ w : Word, (decode w).WellFormed ∧ decode (encode (decode w)) = decode w

/-- R18, R66, R78: a word with a reserved state code is FAULT_HOLD unless RESET takes it, and so is a word that matches no
row. -/
def Obligations.ReservedStateCodesHoldTheFault : Prop :=
  (∀ w : Word, w.extractLsb' 9 4 ∈ [0x5#4, 0x6#4, 0x7#4, 0xB#4, 0xC#4, 0xD#4, 0xE#4] →
    decode w = if w.getLsbD 15 then .reset else .faultHold) ∧
  (∀ w : Word, (∀ r ∈ decodeTable, w &&& r.mask ≠ r.pattern) → decode w = .faultHold)

/-- R66: a word with a defined state code matches a row, and decodes to the operation of the first one. -/
def Obligations.DefinedWordsTakeTheFirstMatchingRow : Prop :=
  ∀ w : Word, w.extractLsb' 9 4 ∉ [0x5#4, 0x6#4, 0x7#4, 0xB#4, 0xC#4, 0xD#4, 0xE#4] →
    ∃ pre r post, decodeTable = pre ++ r :: post ∧ w &&& r.mask = r.pattern ∧
      (∀ p ∈ pre, w &&& p.mask ≠ p.pattern) ∧ decode w = r.op w

/-- R120: the one operation of a cycle, by priority: reset, then `link_err` in a consuming state, then the state's own
operation, a byte operation only with a byte presented. -/
def Obligations.CyclePriority : Prop :=
  ∀ s : State, s.operation =
    if s.inputs.rst then .reset
    else
      match s.st with
      | .sVlen => if s.len = 28#16 then .vlenOk else .vlenBad
      | .sVsum => if s.fld[13] = s.csum then .vsumOk else .vsumBad
      | .sEmit => if s.inputs.outReady then .emitDone else .emitHold
      | .sFault => .faultHold
      | .sM0 =>
        if s.inputs.linkErr then .linkFault else if s.rxValid = false then .rxWait else .m0Capture s.rxData
      | .sM1 =>
        if s.inputs.linkErr then .linkFault else if s.rxValid = false then .rxWait
        else if s.m0ok = true ∧ s.rxData = 0x4D#8 then .m1Match else .m1Mismatch s.m0ok s.rxData
      | .sL0 =>
        if s.inputs.linkErr then .linkFault else if s.rxValid = false then .rxWait else .lenHi s.rxData
      | .sL1 =>
        if s.inputs.linkErr then .linkFault else if s.rxValid = false then .rxWait
        else if s.len.extractLsb' 8 8 = 0x00#8 ∧ s.rxData = 0x00#8 then .lenLoZero
        else .lenLo (s.len.extractLsb' 8 8 == 0x00#8) s.rxData
      | .sBody =>
        if s.inputs.linkErr then .linkFault else if s.rxValid = false then .rxWait
        else if s.cnt.toNat + 1 = s.len.toNat then .bodyLast s.rxData else .bodyByte s.rxData

/-! ### One cycle in each state -/

/-- R128: a cycle with `rst`, in any state and whatever the other inputs, resets; its outputs; the outputs after it. -/
def Obligations.ResetCycle : Prop :=
  ∀ s : State, s.inputs.rst = true →
    s.operation = .reset ∧ s.outputs.rxReady = false ∧ s.outputs.rxFlush = false ∧
    ∃ t, step s = .next t ∧ t = State.tick { s with st := .sM0, faultCode := .none } ∧
      t.outputs.outValid = false ∧ t.outputs.fault = false ∧ t.outputs.faultCode = 0#2

/-- R79: no byte presented in a consuming state: nothing changes, nothing is consumed or flushed. -/
def Obligations.WaitCycle : Prop :=
  ∀ s : State, s.st.consuming = true → Up s.inputs → s.rxValid = false →
    s.operation = .rxWait ∧ step s = .next s.tick ∧ s.outputs.rxReady = false ∧ s.outputs.rxFlush = false

/-- R80: the first byte of a pair. -/
def Obligations.FirstMagicByteCycle : Prop :=
  ∀ s : State, BytePresent s .sM0 →
    s.operation = .m0Capture s.rxData ∧
    step s = .next (State.tick { s with m0ok := s.rxData == 0x42#8, st := .sM1, rx := s.rx.tail })

/-- R81, R82: the second byte of a pair. -/
def Obligations.SecondMagicByteCycle : Prop :=
  ∀ s : State, BytePresent s .sM1 →
    (s.m0ok = true ∧ s.rxData = 0x4D#8 →
      s.operation = .m1Match ∧ step s = .next (State.tick { s with st := .sL0, rx := s.rx.tail })) ∧
    (¬(s.m0ok = true ∧ s.rxData = 0x4D#8) →
      s.operation = .m1Mismatch s.m0ok s.rxData ∧ s.outputs.rxFlush = true ∧
      step s = .next (State.tick { s with
        st := .sM0, rx := s.rx.tail.drop s.inputs.flushDraw, observed := s.observed ++ [.flushPulse] }))

/-- R87: the high byte of the length. -/
def Obligations.LengthHighByteCycle : Prop :=
  ∀ s : State, BytePresent s .sL0 →
    s.operation = .lenHi s.rxData ∧
    step s = .next (State.tick { s with len := s.rxData ++ 0x00#8, st := .sL1, rx := s.rx.tail })

/-- R88, R89: the low byte of the length: a body starts, unless the length is zero. -/
def Obligations.LengthLowByteCycle : Prop :=
  ∀ s : State, BytePresent s .sL1 →
    (¬(s.len.extractLsb' 8 8 = 0x00#8 ∧ s.rxData = 0x00#8) →
      s.operation = .lenLo (s.len.extractLsb' 8 8 == 0x00#8) s.rxData ∧
      step s = .next (State.tick { s with
        len := s.len.extractLsb' 8 8 ++ s.rxData, cnt := 0#16, csum := 0x00AB#16, st := .sBody, rx := s.rx.tail })) ∧
    (s.len.extractLsb' 8 8 = 0x00#8 ∧ s.rxData = 0x00#8 →
      s.operation = .lenLoZero ∧
      step s = .next (State.tick { s with
        len := 0x0000#16, cnt := 0#16, csum := 0x00AB#16, st := .sVlen, rx := s.rx.tail }))

/-- R96, R97: a body byte, the last one or not. -/
def Obligations.BodyByteCycle : Prop :=
  ∀ s : State, BytePresent s .sBody →
    s.operation = (if s.cnt.toNat + 1 = s.len.toNat then .bodyLast s.rxData else .bodyByte s.rxData) ∧
    ∃ t, step s = .next t ∧
      t.st = (if s.cnt.toNat + 1 = s.len.toNat then .sVlen else .sBody) ∧
      t.cnt = s.cnt + 1#16 ∧
      t.csum = (if s.cnt.toNat < 26 then s.csum + s.rxData.setWidth 16 else s.csum) ∧
      (∀ (w : Nat) (hw : w < 14),
        t.fld[w] =
          if s.cnt.toNat / 2 = w then
            (if s.cnt.toNat % 2 = 0 then s.rxData ++ s.fld[w].extractLsb' 0 8
             else s.fld[w].extractLsb' 8 8 ++ s.rxData)
          else s.fld[w]) ∧
      { t with st := s.st, cnt := s.cnt, csum := s.csum, fld := s.fld } = State.tick { s with rx := s.rx.tail }

/-- R101, R102: the length check, whatever the link and the byte inputs do. -/
def Obligations.LengthCheckCycle : Prop :=
  ∀ s : State, s.st = .sVlen → s.inputs.rst = false →
    (s.len = 28#16 → s.operation = .vlenOk ∧ step s = .next (State.tick { s with st := .sVsum })) ∧
    (s.len ≠ 28#16 → s.lenPolicy = .discard →
      s.operation = .vlenBad ∧ step s = .next (State.tick { s with st := .sM0 })) ∧
    (s.len ≠ 28#16 → s.lenPolicy = .fault →
      s.operation = .vlenBad ∧
      step s = .next (State.tick { s with
        st := .sFault, faultCode := .length, observed := s.observed ++ [.faultRose .length] }))

/-- R105, R106: the checksum comparison, whatever the link and the byte inputs do. -/
def Obligations.ChecksumCheckCycle : Prop :=
  ∀ s : State, s.st = .sVsum → s.inputs.rst = false →
    (s.fld[13] = s.csum →
      s.operation = .vsumOk ∧ step s = .next (State.tick { s with ts := s.inputs.tsIn, st := .sEmit })) ∧
    (s.fld[13] ≠ s.csum → s.operation = .vsumBad ∧ step s = .next (State.tick { s with st := .sM0 }))

/-- R107, R108, R109: the record is presented, held without bound, and transferred once when the consumer is ready. -/
def Obligations.EmitCycle : Prop :=
  ∀ s : State, s.st = .sEmit → s.inputs.rst = false →
    s.outputs.outValid = true ∧ s.outputs.outTs = some s.ts ∧
    ∃ f : Vector Word 12, s.outputs.outFields = some f ∧ (∀ (i : Nat) (h : i < 12), f[i] = s.fld[i]) ∧
      (s.inputs.outReady = false → s.operation = .emitHold ∧ step s = .next s.tick) ∧
      (s.inputs.outReady = true →
        s.operation = .emitDone ∧
        step s = .next (State.tick { s with
          st := .sM0, observed := s.observed ++ [.record { fields := f, ts := s.ts }] }))

/-- R111, R113: `link_err` in a consuming state, whether or not a byte is presented: fault LINK, no byte consumed, nothing
flushed, nothing else written. -/
def Obligations.LinkFaultCycle : Prop :=
  ∀ s : State, s.st.consuming = true → s.inputs.rst = false → s.inputs.linkErr = true →
    s.operation = .linkFault ∧ s.outputs.rxReady = false ∧ s.outputs.rxFlush = false ∧
    ∃ t, step s = .next t ∧
      t = State.tick { s with st := .sFault, faultCode := .link, observed := s.observed ++ [.faultRose .link] } ∧
      t.outputs.fault = true ∧ t.outputs.faultCode = 1#2 ∧ t.outputs.outValid = false ∧
      t.outputs.rxReady = false ∧ t.outputs.rxFlush = false

/-- R114: in `S_FAULT` everything but reset is ignored and nothing changes. -/
def Obligations.FaultHoldCycle : Prop :=
  ∀ s : State, s.st = .sFault → s.inputs.rst = false →
    s.operation = .faultHold ∧ step s = .next s.tick ∧ s.outputs.rxReady = false ∧ s.outputs.rxFlush = false ∧
    s.outputs.fault = true

/-- R17, R111: outside the consuming states `link_err` makes no difference. -/
def Obligations.LinkErrIsIgnoredOutsideConsumingStates : Prop :=
  ∀ (s : State) (x : CycleInput) (xs : List CycleInput), s.st.consuming = false →
    ∃ t, step { s with env := { x with linkErr := true } :: xs } = .next t ∧
      step { s with env := { x with linkErr := false } :: xs } = .next t

/-! ### Every cycle -/

/-- R67: the next-state table, with its `from` column. -/
def Obligations.NextStateTable : Prop :=
  ∀ s t : State, step s = .next t →
    match s.operation with
    | .reset => t.st = .sM0
    | .linkFault => s.st.consuming = true ∧ t.st = .sFault
    | .rxWait => t.st = s.st
    | .m0Capture _ => s.st = .sM0 ∧ t.st = .sM1
    | .m1Match => s.st = .sM1 ∧ t.st = .sL0
    | .m1Mismatch _ _ => s.st = .sM1 ∧ t.st = .sM0
    | .lenHi _ => s.st = .sL0 ∧ t.st = .sL1
    | .lenLo _ _ => s.st = .sL1 ∧ t.st = .sBody
    | .lenLoZero => s.st = .sL1 ∧ t.st = .sVlen
    | .bodyByte _ => s.st = .sBody ∧ t.st = .sBody
    | .bodyLast _ => s.st = .sBody ∧ t.st = .sVlen
    | .vlenOk => s.st = .sVlen ∧ t.st = .sVsum
    | .vlenBad => s.st = .sVlen ∧ t.st = (if s.lenPolicy = .discard then .sM0 else .sFault)
    | .vsumOk => s.st = .sVsum ∧ t.st = .sEmit
    | .vsumBad => s.st = .sVsum ∧ t.st = .sM0
    | .emitDone => s.st = .sEmit ∧ t.st = .sM0
    | .emitHold => t.st = s.st
    | .faultHold => t.st = s.st

/-- R29, R43: the outputs of every cycle. -/
def Obligations.OutputsFollowStateAndOperation : Prop :=
  ∀ s : State,
    (s.outputs.rxReady = true ↔
      (∃ b, s.operation = .m0Capture b) ∨ s.operation = .m1Match ∨ (∃ q b, s.operation = .m1Mismatch q b) ∨
      (∃ b, s.operation = .lenHi b) ∨ (∃ q b, s.operation = .lenLo q b) ∨ s.operation = .lenLoZero ∨
      (∃ b, s.operation = .bodyByte b) ∨ (∃ b, s.operation = .bodyLast b)) ∧
    (s.outputs.rxReady = true → s.rxValid = true) ∧
    (s.outputs.rxFlush = true ↔ ∃ q b, s.operation = .m1Mismatch q b) ∧
    (s.outputs.outValid = true ↔ s.st = .sEmit) ∧
    (s.st = .sEmit → s.outputs.outTs = some s.ts ∧
      ∃ f : Vector Word 12, s.outputs.outFields = some f ∧ ∀ (i : Nat) (h : i < 12), f[i] = s.fld[i]) ∧
    (s.st ≠ .sEmit → s.outputs.outTs = none ∧ s.outputs.outFields = none) ∧
    (s.outputs.fault = true ↔ s.st = .sFault) ∧
    s.outputs.faultCode = (match s.faultCode with | .none => 0#2 | .link => 1#2 | .length => 2#2)

/-- R37, R39: a byte is consumed in exactly the cycles with `rx_ready`, which need `rx_valid == 1` and `link_err == 0`; it is
the oldest one; a flush drops the cycle's draw more; otherwise the input sequence stays. -/
def Obligations.BytesAreConsumedOnlyThroughRxReady : Prop :=
  ∀ s t : State, step s = .next t →
    (s.outputs.rxReady = true →
      s.inputs.linkErr = false ∧ s.inputs.rst = false ∧ s.inputs.present = true ∧
      ∃ rest, s.rx = s.rxData :: rest ∧
        t.rx = (if s.outputs.rxFlush = true then rest.drop s.inputs.flushDraw else rest)) ∧
    (s.outputs.rxReady = false → s.outputs.rxFlush = false ∧ t.rx = s.rx)

/-- R51, R118, R139: what each operation lets be seen: one record at EMIT_DONE, one pulse at M1_MISMATCH, the code where a
fault is raised, and nothing at any other operation. -/
def Obligations.ObservedEventsOfEveryOperation : Prop :=
  ∀ s t : State, step s = .next t →
    ∃ seen, t.observed = s.observed ++ seen ∧
      match s.operation with
      | .emitDone => ∃ r : Record, seen = [.record r] ∧ r.ts = s.ts ∧ ∀ (i : Nat) (h : i < 12), r.fields[i] = s.fld[i]
      | .m1Mismatch _ _ => seen = [.flushPulse]
      | .linkFault => seen = [.faultRose .link]
      | .vlenBad => seen = if s.lenPolicy = .fault then [.faultRose .length] else []
      | .reset | .rxWait | .m0Capture _ | .m1Match | .lenHi _ | .lenLo _ _ | .lenLoZero | .bodyByte _ | .bodyLast _
      | .vlenOk | .vsumOk | .vsumBad | .emitHold | .faultHold => seen = []

/-- R10, R78, R139: FSYNC never stops by itself: every cycle performs an operation, and the model's own stop is not
reached. -/
def Obligations.EveryCycleAnswersANextState : Prop := ∀ s : State, ∃ t, step s = .next t

/-- R27 and log 2: no operation writes LEN_POLICY; every cycle takes one entry of the script and one number. -/
def Obligations.ParametersAreFixedAndTimePasses : Prop :=
  ∀ s t : State, step s = .next t → t.lenPolicy = s.lenPolicy ∧ t.env = s.env.tail ∧ t.cycle = s.cycle + 1

/-- R130: the first cycle after reset is released performs the operation of `S_M0` that the inputs select. -/
def Obligations.FirstCycleAfterReset : Prop :=
  ∀ s t : State, s.inputs.rst = true → step s = .next t → t.inputs.rst = false →
    t.operation =
      if t.inputs.linkErr = true then .linkFault else if t.rxValid = true then .m0Capture t.rxData else .rxWait

/-- R113, R115, R116: the cycle in which a fault is raised changes `fault_code` and `st` and no other register, and its
cause is one of two. -/
def Obligations.FaultsArePrecise : Prop :=
  ∀ s t : State, step s = .next t → s.st ≠ .sFault → t.st = .sFault →
    ∃ c, t = State.tick { s with st := .sFault, faultCode := c, observed := s.observed ++ [.faultRose c] } ∧
      ((c = .link ∧ s.st.consuming = true ∧ s.inputs.linkErr = true) ∨
       (c = .length ∧ s.st = .sVlen ∧ s.len ≠ 28#16 ∧ s.lenPolicy = .fault))

/-! ### Runs -/

/-- R114, R117, R141: without reset, a fault stays for as long as the run goes on, and nothing else changes either. -/
def Obligations.FaultsAreFinalUntilReset : Prop :=
  ∀ (n : Nat) (s : State), s.st = .sFault → NoResetFor s n → runCycles n s = .next (s.idle n)

/-- R53: no timer ends a wait: with no byte, FSYNC stays in its consuming state, and with no `out_ready` in `S_EMIT`, for
any number of cycles, and nothing changes. -/
def Obligations.WaitsAreUnbounded : Prop :=
  (∀ (n : Nat) (s : State), s.st.consuming = true →
    (∀ j, j < n → Up (s.inputsAt j) ∧ ((s.inputsAt j).present = false ∨ s.rx = [])) →
      runCycles n s = .next (s.idle n)) ∧
  (∀ (n : Nat) (s : State), s.st = .sEmit →
    (∀ j, j < n → (s.inputsAt j).rst = false ∧ (s.inputsAt j).outReady = false) → runCycles n s = .next (s.idle n))

/-- R142: every operation other than a hold consumes a byte, ends in `S_M0` or `S_FAULT`, or comes nearer to that; and from
a non-consuming state with a ready consumer FSYNC is in `S_M0` or `S_FAULT` within three cycles, no byte consumed. -/
def Obligations.NonConsumingCyclesAreAtMostThree : Prop :=
  (∀ s t : State, step s = .next t → s.operation.opClass ≠ .hold →
    t.rx.length < s.rx.length ∨ t.st = .sM0 ∨ t.st = .sFault ∨ drainRank t.st < drainRank s.st) ∧
  (∀ s : State, s.st = .sVlen ∨ s.st = .sVsum ∨ s.st = .sEmit →
    (∀ j, j < 3 → (s.inputsAt j).rst = false ∧ (s.inputsAt j).outReady = true) →
      ∃ n t, n ≤ 3 ∧ runCycles n s = .next t ∧ (t.st = .sM0 ∨ t.st = .sFault) ∧ t.rx = s.rx)

/-- R137, R111: a platform that holds `link_err` has its failure taken in the next consuming state. -/
def Obligations.HeldLinkErrorIsTaken : Prop :=
  ∀ (n : Nat) (s t : State), s.inputs.linkErr = true → LinkErrHeldFor s n → NoResetFor s (n + 1) →
    runCycles n s = .next t → t.st.consuming = true → t.operation = .linkFault

/-- R83: the pair test, with any wait before each byte: on to step 2 exactly for (0x42, 0x4D), a flush and a new start for
every other pair. -/
def Obligations.PairTestIsStepOne : Prop :=
  ∀ (s : State) (m n : Nat) (b0 b1 : Byte) (rest : List Byte),
    s.st = .sM0 → s.rx = b0 :: b1 :: rest → (∀ j, j < m + n + 2 → Up (s.inputsAt j)) →
    (∀ j, j < m + n + 2 → ((s.inputsAt j).present = true ↔ j = m ∨ j = m + n + 1)) →
      ∃ t, runCycles (m + n + 2) s = .next t ∧
        (b0 = 0x42#8 ∧ b1 = 0x4D#8 → t.st = .sL0 ∧ t.rx = rest ∧ t.observed = s.observed) ∧
        (¬(b0 = 0x42#8 ∧ b1 = 0x4D#8) →
          t.st = .sM0 ∧ t.rx = rest.drop (s.inputsAt (m + n + 1)).flushDraw ∧
          t.observed = s.observed ++ [.flushPulse])

/-- R72, R110: a valid frame at a pair position, every byte available and the consumer ready, yields one record with its
first twelve words and the timestamp of its acceptance, and the input stands after the frame. -/
def Obligations.ValidFrameYieldsItsRecord : Prop :=
  ∀ (s : State) (data rest : List Byte), s.st = .sM0 → data.length = 26 →
    s.rx = frameOf data (checksumOf data) ++ rest → ServedFor s 35 →
      ∃ t r, runCycles 35 s = .next t ∧ t.st = .sM0 ∧ t.rx = rest ∧ t.faultCode = s.faultCode ∧
        t.observed = s.observed ++ [.record r] ∧ r.ts = (s.inputsAt 33).tsIn ∧
        ∀ (i : Nat) (h : i < 12), r.fields[i] = bodyWord data i

/-- R106, R110: a 28-byte frame with any other checksum field yields nothing and is not signalled. -/
def Obligations.BadChecksumFrameIsDropped : Prop :=
  ∀ (s : State) (data rest : List Byte) (c : Word), s.st = .sM0 → data.length = 26 → c ≠ checksumOf data →
    s.rx = frameOf data c ++ rest → ServedFor s 34 →
      ∃ t, runCycles 34 s = .next t ∧ t.st = .sM0 ∧ t.rx = rest ∧ t.faultCode = s.faultCode ∧
        t.observed = s.observed

/-- R90, R102, R103, R110: a frame of any other length consumes exactly as many body bytes as its length field says; then
it is dropped silently or raises fault LENGTH, as LEN_POLICY says. -/
def Obligations.WrongLengthFrameIsConsumedWhole : Prop :=
  ∀ (s : State) (len : Word) (body rest : List Byte), s.st = .sM0 → len ≠ 28#16 → body.length = len.toNat →
    s.rx = frameWith len body ++ rest → ServedFor s (len.toNat + 5) →
      ∃ t, runCycles (len.toNat + 5) s = .next t ∧ t.rx = rest ∧
        (s.lenPolicy = .discard → t.st = .sM0 ∧ t.faultCode = s.faultCode ∧ t.observed = s.observed) ∧
        (s.lenPolicy = .fault →
          t.st = .sFault ∧ t.faultCode = .length ∧ t.observed = s.observed ++ [.faultRose .length])

/-- R100: change any one of the 28 body bytes of a valid frame and the frame is rejected; change several data bytes so that
the sum stays and it is accepted. -/
def Obligations.SingleByteChangesAreDetected : Prop :=
  (∀ (s : State) (data rest : List Byte) (i : Nat) (b : Byte), s.st = .sM0 → data.length = 26 → i < 28 →
    (data ++ wordBytes (checksumOf data))[i]? ≠ some b →
    s.rx = frameWith 28#16 ((data ++ wordBytes (checksumOf data)).set i b) ++ rest → ServedFor s 34 →
      ∃ t, runCycles 34 s = .next t ∧ t.st = .sM0 ∧ t.rx = rest ∧ t.observed = s.observed) ∧
  (∀ (s : State) (data data' rest : List Byte), s.st = .sM0 → data.length = 26 → data'.length = 26 →
    sumBytes data' = sumBytes data → s.rx = frameOf data' (checksumOf data) ++ rest → ServedFor s 35 →
      ∃ t r, runCycles 35 s = .next t ∧ t.rx = rest ∧ t.observed = s.observed ++ [.record r])

/-- R84 (a): garbage of even length with no magic pair at an even offset, every flush drawing 0, then a valid frame: the
frame is recovered. -/
def Obligations.EvenGarbageThenAValidFrameIsRecovered : Prop :=
  ∀ (s : State) (garbage : List (Byte × Byte)) (data rest : List Byte), s.st = .sM0 →
    (0x42#8, 0x4D#8) ∉ garbage → data.length = 26 →
    s.rx = pairBytes garbage ++ (frameOf data (checksumOf data) ++ rest) →
    ServedFor s (2 * garbage.length + 35) →
    (∀ j, j < 2 * garbage.length → (s.inputsAt j).flushDraw = 0) →
      ∃ t r, runCycles (2 * garbage.length + 35) s = .next t ∧ t.st = .sM0 ∧ t.rx = rest ∧
        t.observed = s.observed ++ List.replicate garbage.length .flushPulse ++ [.record r] ∧
        ∀ (i : Nat) (h : i < 12), r.fields[i] = bodyWord data i

/-! ### Invariants, soundness, independence -/

/-- Every cycle keeps the invariant, from every state that has it (R22, R23, R25, R32, R94, R97, R98, R112). -/
def Obligations.EveryCycleKeepsTheInvariant : Prop := ∀ s t : State, Inv s → step s = .next t → Inv t

/-- The invariant holds right after reset. -/
def Obligations.InvariantHoldsAtReset : Prop := Inv State.reset

/-- R31, R128: what the spec states of the machine right after reset. -/
def Obligations.ResetLeavesTheStatedValues : Prop :=
  State.reset.st = .sM0 ∧ State.reset.faultCode = .none ∧ State.reset.outputs.outValid = false ∧
  State.reset.outputs.fault = false ∧ State.reset.outputs.faultCode = 0#2

/-- R72, R104, R105: every record that is ever transferred passed the checksum: its frame's word 13 is 0x00AB plus the sum of
the 26 bytes of words 0 to 12, as integers. -/
def Obligations.TransferredRecordsPassedTheChecksum : Prop :=
  ∀ s t : State, Inv s → step s = .next t → t.observed ≠ s.observed → s.operation = .emitDone →
    ∃ r : Record, t.observed = s.observed ++ [.record r] ∧ (∀ (i : Nat) (h : i < 12), r.fields[i] = s.fld[i]) ∧
      s.len = 28#16 ∧ s.cnt = 28#16 ∧ s.fld[13].toNat = 0x00AB + byteSum s.fld 26

/-- R72, R106: a checksum field above 0x1A91 is never accepted. -/
def Obligations.LargeChecksumFieldsAreNeverAccepted : Prop :=
  ∀ s : State, Inv s → s.st = .sVsum → s.inputs.rst = false → 0x1A91 < s.fld[13].toNat →
    step s = .next (State.tick { s with st := .sM0 })

/-- R32: a register that no operation reads before writing it makes no difference to a cycle: not to its operation, not to
its outputs, and not to what is live after it. -/
def Obligations.DeadRegistersMakeNoDifference : Prop :=
  ∀ s t s' : State, SameLive s t → step s = .next s' →
    s.operation = t.operation ∧ s.outputs = t.outputs ∧ ∃ t', step t = .next t' ∧ SameLive s' t'

/-- R33, R31: no state carries information from one frame to the next: whatever the data registers hold in `S_M0`, any
number of cycles shows the same and leaves the same input. So no run from reset depends on the reset values the model
chose (log 1). -/
def Obligations.EarlierFramesMakeNoDifference : Prop :=
  ∀ (n : Nat) (s s' : State) (m0ok : Bool) (len cnt csum : Word) (fld : Vector Word 14) (ts : Timestamp),
    s.st = .sM0 → runCycles n s = .next s' →
      ∃ t', runCycles n { s with m0ok := m0ok, len := len, cnt := cnt, csum := csum, fld := fld, ts := ts } = .next t' ∧
        t'.st = s'.st ∧ t'.faultCode = s'.faultCode ∧ t'.rx = s'.rx ∧ t'.observed = s'.observed ∧
        t'.outputs = s'.outputs

/-! ### Datapaths and formats -/

/-- R92: one byte goes into its half of its word; a whole body of 28 bytes gives the 14 big-endian words. -/
def Obligations.UnpackerIsBigEndian : Prop :=
  (∀ (fld : Vector Word 14) (i : Nat) (b : Byte) (w : Nat) (hw : w < 14),
    (storeBodyByte fld i b)[w] =
      if i < 28 ∧ i / 2 = w then
        (if i % 2 = 0 then b ++ fld[w].extractLsb' 0 8 else fld[w].extractLsb' 8 8 ++ b)
      else fld[w]) ∧
  (∀ (fld : Vector Word 14) (body : List Byte), body.length = 28 → ∀ (w : Nat) (hw : w < 14),
    (storeBytes fld 0 body)[w] = bodyWord body w)

/-- R94, R98: a byte with number below 26 is added and no other is; the engine adds the first 26 body bytes to 0x00AB,
without wrapping, whatever the length. -/
def Obligations.ChecksumEngineIsTheIntegerFormula : Prop :=
  (∀ (csum : Word) (i : Nat) (b : Byte), sumBodyByte csum i b = if i < 26 then csum + b.setWidth 16 else csum) ∧
  (∀ body : List Byte, (sumBodyBytes 0x00AB#16 0 body).toNat = 0x00AB + sumBytes (body.take 26))

/-- R45: the byte-wise sum of 26 bytes is the sum over the bytes of words 0 to 12. -/
def Obligations.ByteSumIsTheWordSum : Prop :=
  ∀ fld : Vector Word 14,
    byteSum fld 26 =
      ((fld.toList.take 13).map fun w => (w.extractLsb' 8 8).toNat + (w.extractLsb' 0 8).toNat).sum

/-- R69: where the words and the timestamp lie in the flat record. -/
def Obligations.FlatRecordLayout : Prop :=
  ∀ r : Record, (∀ (i : Nat) (h : i < 12), r.flat.extractLsb' (16 * i) 16 = r.fields[i]) ∧
    r.flat.extractLsb' 192 Config.tsWidth = r.ts

/-! ### Quiescence and resynchronisation by a flush -/

/-- R139: which cycles a quiescent run can end in, told from the state and the inputs: an exhausted input needs a consuming
state and a link that is up, an unending EMIT_HOLD no reset and a consumer that is never ready, FAULT_HOLD no reset. So a
run over an exhausted input with the link up, and a run after a fault without reset, are quiescent whatever their length. -/
def Obligations.QuiescentRunsByStateAndInputs : Prop :=
  (∀ s : State, Quiescent s ↔
    (s.st.consuming = true ∧ Up s.inputs ∧ s.rx = []) ∨
    (s.st = .sEmit ∧ s.inputs.rst = false ∧ ∀ j, (s.inputsAt j).outReady = false) ∨
    (s.st = .sFault ∧ s.inputs.rst = false)) ∧
  (∀ (n : Nat) (s : State), s.st.consuming = true → s.rx = [] → (∀ j, j < n + 1 → Up (s.inputsAt j)) →
    QuiescentRun n s) ∧
  (∀ (n : Nat) (s : State), s.st = .sFault → NoResetFor s (n + 1) → QuiescentRun n s)

/-- R139: only the third place is a fault; the first two are waits, the first ended by a byte that arrives, the second by
`out_ready`; and the third is ended by no input but reset. Until then nothing changes. -/
def Obligations.QuiescentPlacesAreWaitsOrTheFault : Prop :=
  ∀ s : State,
    (s.operation = .rxWait → s.rx = [] →
      step s = .next s.tick ∧ s.outputs.fault = false ∧
      ∀ (x : CycleInput) (b : Byte), Up x → x.present = true →
        (State.operation { s with rx := [b], env := x :: s.env }).opClass = .byteConsuming) ∧
    (s.operation = .emitHold →
      step s = .next s.tick ∧ s.outputs.fault = false ∧
      ∀ x : CycleInput, x.rst = false → x.outReady = true →
        State.operation { s with env := x :: s.env } = .emitDone) ∧
    (s.operation = .faultHold →
      step s = .next s.tick ∧ s.outputs.fault = true ∧
      ∀ (x : CycleInput) (bytes : List Byte), x.rst = false →
        State.operation { s with rx := bytes, env := x :: s.env } = .faultHold)

/-- R84 (b): whatever came before, a mismatching pair whose flush draw removes exactly the rest of the garbage, then a valid
frame: the frame is recovered. -/
def Obligations.FlushOfTheRestOfTheGarbageRecoversTheFrame : Prop :=
  ∀ (s : State) (b : Byte) (garbage data rest : List Byte), s.st = .sM1 → ¬(s.m0ok = true ∧ b = 0x4D#8) →
    data.length = 26 → s.rx = b :: garbage ++ (frameOf data (checksumOf data) ++ rest) →
    s.inputs.flushDraw = garbage.length → ServedFor s 36 →
      ∃ t r, runCycles 36 s = .next t ∧ t.st = .sM0 ∧ t.rx = rest ∧
        t.observed = s.observed ++ [.flushPulse, .record r] ∧ ∀ (i : Nat) (h : i < 12), r.fields[i] = bodyWord data i
end

