-- ==== Sys2Proof/Laws/State.lean ====
section
/-! SUPPORT. What each named update of the state leaves in each field: one lemma per field per update. -/

namespace Sys2Proof.Machine

@[simp] theorem State.rxPop_st (s : State) : (s.rxPop).st = s.st := rfl
@[simp] theorem State.rxPop_m0ok (s : State) : (s.rxPop).m0ok = s.m0ok := rfl
@[simp] theorem State.rxPop_len (s : State) : (s.rxPop).len = s.len := rfl
@[simp] theorem State.rxPop_cnt (s : State) : (s.rxPop).cnt = s.cnt := rfl
@[simp] theorem State.rxPop_csum (s : State) : (s.rxPop).csum = s.csum := rfl
@[simp] theorem State.rxPop_fld (s : State) : (s.rxPop).fld = s.fld := rfl
@[simp] theorem State.rxPop_ts (s : State) : (s.rxPop).ts = s.ts := rfl
@[simp] theorem State.rxPop_faultCode (s : State) : (s.rxPop).faultCode = s.faultCode := rfl
@[simp] theorem State.rxPop_lenPolicy (s : State) : (s.rxPop).lenPolicy = s.lenPolicy := rfl
@[simp] theorem State.rxPop_rx (s : State) : (s.rxPop).rx = s.rx.tail := rfl
@[simp] theorem State.rxPop_env (s : State) : (s.rxPop).env = s.env := rfl
@[simp] theorem State.rxPop_cycle (s : State) : (s.rxPop).cycle = s.cycle := rfl
@[simp] theorem State.rxPop_observed (s : State) : (s.rxPop).observed = s.observed := rfl

@[simp] theorem State.rxFlush_st (s : State) : (s.rxFlush).st = s.st := rfl
@[simp] theorem State.rxFlush_m0ok (s : State) : (s.rxFlush).m0ok = s.m0ok := rfl
@[simp] theorem State.rxFlush_len (s : State) : (s.rxFlush).len = s.len := rfl
@[simp] theorem State.rxFlush_cnt (s : State) : (s.rxFlush).cnt = s.cnt := rfl
@[simp] theorem State.rxFlush_csum (s : State) : (s.rxFlush).csum = s.csum := rfl
@[simp] theorem State.rxFlush_fld (s : State) : (s.rxFlush).fld = s.fld := rfl
@[simp] theorem State.rxFlush_ts (s : State) : (s.rxFlush).ts = s.ts := rfl
@[simp] theorem State.rxFlush_faultCode (s : State) : (s.rxFlush).faultCode = s.faultCode := rfl
@[simp] theorem State.rxFlush_lenPolicy (s : State) : (s.rxFlush).lenPolicy = s.lenPolicy := rfl
@[simp] theorem State.rxFlush_rx (s : State) : (s.rxFlush).rx = s.rx.drop s.inputs.flushDraw := rfl
@[simp] theorem State.rxFlush_env (s : State) : (s.rxFlush).env = s.env := rfl
@[simp] theorem State.rxFlush_cycle (s : State) : (s.rxFlush).cycle = s.cycle := rfl
@[simp] theorem State.rxFlush_observed (s : State) : (s.rxFlush).observed = s.observed ++ [.flushPulse] := rfl

@[simp] theorem State.emit_st (s : State) : (s.emit).st = s.st := rfl
@[simp] theorem State.emit_m0ok (s : State) : (s.emit).m0ok = s.m0ok := rfl
@[simp] theorem State.emit_len (s : State) : (s.emit).len = s.len := rfl
@[simp] theorem State.emit_cnt (s : State) : (s.emit).cnt = s.cnt := rfl
@[simp] theorem State.emit_csum (s : State) : (s.emit).csum = s.csum := rfl
@[simp] theorem State.emit_fld (s : State) : (s.emit).fld = s.fld := rfl
@[simp] theorem State.emit_ts (s : State) : (s.emit).ts = s.ts := rfl
@[simp] theorem State.emit_faultCode (s : State) : (s.emit).faultCode = s.faultCode := rfl
@[simp] theorem State.emit_lenPolicy (s : State) : (s.emit).lenPolicy = s.lenPolicy := rfl
@[simp] theorem State.emit_rx (s : State) : (s.emit).rx = s.rx := rfl
@[simp] theorem State.emit_env (s : State) : (s.emit).env = s.env := rfl
@[simp] theorem State.emit_cycle (s : State) : (s.emit).cycle = s.cycle := rfl
@[simp] theorem State.emit_observed (s : State) : (s.emit).observed = s.observed ++ [.record s.record] := rfl

@[simp] theorem State.raiseFault_st (s : State) (c : FaultCode) : (s.raiseFault c).st = .sFault := rfl
@[simp] theorem State.raiseFault_m0ok (s : State) (c : FaultCode) : (s.raiseFault c).m0ok = s.m0ok := rfl
@[simp] theorem State.raiseFault_len (s : State) (c : FaultCode) : (s.raiseFault c).len = s.len := rfl
@[simp] theorem State.raiseFault_cnt (s : State) (c : FaultCode) : (s.raiseFault c).cnt = s.cnt := rfl
@[simp] theorem State.raiseFault_csum (s : State) (c : FaultCode) : (s.raiseFault c).csum = s.csum := rfl
@[simp] theorem State.raiseFault_fld (s : State) (c : FaultCode) : (s.raiseFault c).fld = s.fld := rfl
@[simp] theorem State.raiseFault_ts (s : State) (c : FaultCode) : (s.raiseFault c).ts = s.ts := rfl
@[simp] theorem State.raiseFault_faultCode (s : State) (c : FaultCode) : (s.raiseFault c).faultCode = c := rfl
@[simp] theorem State.raiseFault_lenPolicy (s : State) (c : FaultCode) : (s.raiseFault c).lenPolicy = s.lenPolicy := rfl
@[simp] theorem State.raiseFault_rx (s : State) (c : FaultCode) : (s.raiseFault c).rx = s.rx := rfl
@[simp] theorem State.raiseFault_env (s : State) (c : FaultCode) : (s.raiseFault c).env = s.env := rfl
@[simp] theorem State.raiseFault_cycle (s : State) (c : FaultCode) : (s.raiseFault c).cycle = s.cycle := rfl
@[simp] theorem State.raiseFault_observed (s : State) (c : FaultCode) : (s.raiseFault c).observed = s.observed ++ [.faultRose c] := rfl

@[simp] theorem State.resetRegs_st (s : State) : (s.resetRegs).st = .sM0 := rfl
@[simp] theorem State.resetRegs_m0ok (s : State) : (s.resetRegs).m0ok = s.m0ok := rfl
@[simp] theorem State.resetRegs_len (s : State) : (s.resetRegs).len = s.len := rfl
@[simp] theorem State.resetRegs_cnt (s : State) : (s.resetRegs).cnt = s.cnt := rfl
@[simp] theorem State.resetRegs_csum (s : State) : (s.resetRegs).csum = s.csum := rfl
@[simp] theorem State.resetRegs_fld (s : State) : (s.resetRegs).fld = s.fld := rfl
@[simp] theorem State.resetRegs_ts (s : State) : (s.resetRegs).ts = s.ts := rfl
@[simp] theorem State.resetRegs_faultCode (s : State) : (s.resetRegs).faultCode = .none := rfl
@[simp] theorem State.resetRegs_lenPolicy (s : State) : (s.resetRegs).lenPolicy = s.lenPolicy := rfl
@[simp] theorem State.resetRegs_rx (s : State) : (s.resetRegs).rx = s.rx := rfl
@[simp] theorem State.resetRegs_env (s : State) : (s.resetRegs).env = s.env := rfl
@[simp] theorem State.resetRegs_cycle (s : State) : (s.resetRegs).cycle = s.cycle := rfl
@[simp] theorem State.resetRegs_observed (s : State) : (s.resetRegs).observed = s.observed := rfl

@[simp] theorem State.takeBodyByte_st (s : State) (b : Byte) : (s.takeBodyByte b).st = s.st := rfl
@[simp] theorem State.takeBodyByte_m0ok (s : State) (b : Byte) : (s.takeBodyByte b).m0ok = s.m0ok := rfl
@[simp] theorem State.takeBodyByte_len (s : State) (b : Byte) : (s.takeBodyByte b).len = s.len := rfl
@[simp] theorem State.takeBodyByte_cnt (s : State) (b : Byte) : (s.takeBodyByte b).cnt = s.cnt + 1#16 := rfl
@[simp] theorem State.takeBodyByte_csum (s : State) (b : Byte) : (s.takeBodyByte b).csum = sumBodyByte s.csum s.cnt.toNat b := rfl
@[simp] theorem State.takeBodyByte_fld (s : State) (b : Byte) : (s.takeBodyByte b).fld = storeBodyByte s.fld s.cnt.toNat b := rfl
@[simp] theorem State.takeBodyByte_ts (s : State) (b : Byte) : (s.takeBodyByte b).ts = s.ts := rfl
@[simp] theorem State.takeBodyByte_faultCode (s : State) (b : Byte) : (s.takeBodyByte b).faultCode = s.faultCode := rfl
@[simp] theorem State.takeBodyByte_lenPolicy (s : State) (b : Byte) : (s.takeBodyByte b).lenPolicy = s.lenPolicy := rfl
@[simp] theorem State.takeBodyByte_rx (s : State) (b : Byte) : (s.takeBodyByte b).rx = s.rx := rfl
@[simp] theorem State.takeBodyByte_env (s : State) (b : Byte) : (s.takeBodyByte b).env = s.env := rfl
@[simp] theorem State.takeBodyByte_cycle (s : State) (b : Byte) : (s.takeBodyByte b).cycle = s.cycle := rfl
@[simp] theorem State.takeBodyByte_observed (s : State) (b : Byte) : (s.takeBodyByte b).observed = s.observed := rfl

@[simp] theorem State.startBody_st (s : State) (b : Byte) : (s.startBody b).st = s.st := rfl
@[simp] theorem State.startBody_m0ok (s : State) (b : Byte) : (s.startBody b).m0ok = s.m0ok := rfl
@[simp] theorem State.startBody_len (s : State) (b : Byte) : (s.startBody b).len = setLoByte s.len b := rfl
@[simp] theorem State.startBody_cnt (s : State) (b : Byte) : (s.startBody b).cnt = 0#16 := rfl
@[simp] theorem State.startBody_csum (s : State) (b : Byte) : (s.startBody b).csum = Config.csumBase := rfl
@[simp] theorem State.startBody_fld (s : State) (b : Byte) : (s.startBody b).fld = s.fld := rfl
@[simp] theorem State.startBody_ts (s : State) (b : Byte) : (s.startBody b).ts = s.ts := rfl
@[simp] theorem State.startBody_faultCode (s : State) (b : Byte) : (s.startBody b).faultCode = s.faultCode := rfl
@[simp] theorem State.startBody_lenPolicy (s : State) (b : Byte) : (s.startBody b).lenPolicy = s.lenPolicy := rfl
@[simp] theorem State.startBody_rx (s : State) (b : Byte) : (s.startBody b).rx = s.rx := rfl
@[simp] theorem State.startBody_env (s : State) (b : Byte) : (s.startBody b).env = s.env := rfl
@[simp] theorem State.startBody_cycle (s : State) (b : Byte) : (s.startBody b).cycle = s.cycle := rfl
@[simp] theorem State.startBody_observed (s : State) (b : Byte) : (s.startBody b).observed = s.observed := rfl

@[simp] theorem State.tick_st (s : State) : (s.tick).st = s.st := rfl
@[simp] theorem State.tick_m0ok (s : State) : (s.tick).m0ok = s.m0ok := rfl
@[simp] theorem State.tick_len (s : State) : (s.tick).len = s.len := rfl
@[simp] theorem State.tick_cnt (s : State) : (s.tick).cnt = s.cnt := rfl
@[simp] theorem State.tick_csum (s : State) : (s.tick).csum = s.csum := rfl
@[simp] theorem State.tick_fld (s : State) : (s.tick).fld = s.fld := rfl
@[simp] theorem State.tick_ts (s : State) : (s.tick).ts = s.ts := rfl
@[simp] theorem State.tick_faultCode (s : State) : (s.tick).faultCode = s.faultCode := rfl
@[simp] theorem State.tick_lenPolicy (s : State) : (s.tick).lenPolicy = s.lenPolicy := rfl
@[simp] theorem State.tick_rx (s : State) : (s.tick).rx = s.rx := rfl
@[simp] theorem State.tick_env (s : State) : (s.tick).env = s.env.tail := rfl
@[simp] theorem State.tick_cycle (s : State) : (s.tick).cycle = s.cycle + 1 := rfl
@[simp] theorem State.tick_observed (s : State) : (s.tick).observed = s.observed := rfl

end Sys2Proof.Machine
end

