-- ==== Sys2Proof/Laws/Ops.lean ====
section
/-! SUPPORT. What each shared operation can do, said once: the inputs of a cycle, RxPop, the end of a cycle, the byte
placement, the unpacker and the checksum engine. -/

namespace Sys2Proof.Machine

/-! ### The inputs of a cycle -/

theorem State.inputsAt_nil (s : State) (j : Nat) (h : s.env = []) :
    s.inputsAt j = Config.freeInput (s.cycle + j) := by simp [State.inputsAt, h]

theorem State.inputs_cons (s : State) (x : CycleInput) (xs : List CycleInput) (h : s.env = x :: xs) :
    s.inputs = x := by simp [State.inputs, State.inputsAt, h]

/-- The inputs depend on the script and the cycle's number alone. -/
theorem State.inputsAt_congr {s t : State} (he : s.env = t.env) (hc : s.cycle = t.cycle) (j : Nat) :
    s.inputsAt j = t.inputsAt j := by simp [State.inputsAt, he, hc]

theorem State.inputs_congr {s t : State} (he : s.env = t.env) (hc : s.cycle = t.cycle) : s.inputs = t.inputs :=
  State.inputsAt_congr he hc 0

/-- When a cycle ends, the inputs one cycle ahead become the current ones. -/
@[simp] theorem State.inputsAt_tick (s : State) (j : Nat) : s.tick.inputsAt j = s.inputsAt (j + 1) := by
  cases h : s.env with
  | nil => simp [State.inputsAt, h, Nat.add_assoc, Nat.add_comm 1 j]
  | cons x xs => cases hx : xs[j]? <;> simp [State.inputsAt, h, hx, Nat.add_assoc, Nat.add_comm 1 j]

@[simp] theorem State.inputs_tick (s : State) : s.tick.inputs = s.inputsAt 1 := State.inputsAt_tick s 0

theorem State.inputsAt_zero (s : State) : s.inputsAt 0 = s.inputs := rfl

@[simp] theorem State.inputs_rxPop (s : State) : s.rxPop.inputs = s.inputs := rfl

theorem State.rxValid_iff (s : State) : s.rxValid = true ↔ s.inputs.present = true ∧ s.rx ≠ [] := by
  simp [State.rxValid]

/-- With a byte presented, `rx_data` is the head of the sequence. -/
theorem State.rx_of_rxValid {s : State} (h : s.rxValid = true) : s.rx = s.rxData :: s.rx.tail := by
  obtain ⟨hp, hr⟩ := s.rxValid_iff.mp h
  cases hx : s.rx with
  | nil => exact absurd hx hr
  | cons b bs => simp [State.rxData, hp, hx]

/-! ### RxPop, the end of a cycle, the step -/

/-- With a byte presented, a byte-consuming operation completes with its effect. -/
theorem consumeByte_of_rxValid {s : State} (f : State → State) (h : s.rxValid = true) :
    consumeByte s f = .next (f s.rxPop) := by simp [consumeByte, h]

/-- Without one it stops by name. -/
theorem consumeByte_of_not_rxValid {s : State} (f : State → State) (h : s.rxValid = false) :
    consumeByte s f = .fault .rxPopWithoutByte := by simp [consumeByte, h]

/-- All a byte-consuming operation can answer. -/
theorem consumeByte_next_iff {s t : State} {f : State → State} :
    consumeByte s f = .next t ↔ s.rxValid = true ∧ t = f s.rxPop := by
  cases h : s.rxValid <;> simp [consumeByte, h, eq_comm]

theorem endCycle_next_iff {o : Host.Outcome State Fault Refusal} {t : State} :
    endCycle o = .next t ↔ ∃ u, o = .next u ∧ t = u.tick := by
  cases o <;> simp [endCycle, eq_comm]

/-- All a step can answer: the outcome of the cycle's operation, with the cycle ended. -/
theorem step_next_iff {s t : State} : step s = .next t ↔ ∃ u, exec s.operation s = .next u ∧ t = u.tick :=
  endCycle_next_iff

theorem step_of_exec {s u : State} (h : exec s.operation s = .next u) : step s = .next u.tick := by
  simp [step, h, endCycle]

/-! ### Byte placement -/

@[simp] theorem hiByte_append (h l : Byte) : hiByte (h ++ l) = h := by
  apply BitVec.eq_of_getElem_eq
  intro i hi
  have e := BitVec.getLsbD_append (x := h) (y := l) (i := 8 + i)
  rw [if_neg (by omega), Nat.add_sub_cancel_left, BitVec.getLsbD_eq_getElem hi] at e
  exact (BitVec.getElem_extractLsb' hi).trans e

@[simp] theorem loByte_append (h l : Byte) : loByte (h ++ l) = l := by
  apply BitVec.eq_of_getElem_eq
  intro i hi
  have e := BitVec.getLsbD_append (x := h) (y := l) (i := 0 + i)
  rw [if_pos (by omega), Nat.zero_add, BitVec.getLsbD_eq_getElem hi] at e
  exact (BitVec.getElem_extractLsb' hi).trans (by rw [Nat.zero_add]; exact e)

/-- A word is its two bytes. -/
@[simp] theorem hiByte_append_loByte (w : Word) : hiByte w ++ loByte w = w := by
  have := BitVec.extractLsb'_append_extractLsb'_eq_extractLsb' (x := w) (start₁ := 0) (len₁ := 8) (start₂ := 8) (len₂ := 8) rfl
  simpa [hiByte, loByte] using this

@[simp] theorem hiByte_setHiByte (w : Word) (b : Byte) : hiByte (setHiByte w b) = b := hiByte_append _ _
@[simp] theorem loByte_setHiByte (w : Word) (b : Byte) : loByte (setHiByte w b) = loByte w := loByte_append _ _
@[simp] theorem hiByte_setLoByte (w : Word) (b : Byte) : hiByte (setLoByte w b) = hiByte w := hiByte_append _ _
@[simp] theorem loByte_setLoByte (w : Word) (b : Byte) : loByte (setLoByte w b) = b := loByte_append _ _

theorem word_ext {v w : Word} (hh : hiByte v = hiByte w) (hl : loByte v = loByte w) : v = w := by
  rw [← hiByte_append_loByte v, ← hiByte_append_loByte w, hh, hl]

/-! ### The unpacker and the checksum engine -/

/-- The unpacker puts the byte at its own number (42_body.md R92). -/
theorem bodyByteAt_store_self (fld : Vector Word 14) {i : Nat} (b : Byte) (h : i < 28) :
    bodyByteAt (storeBodyByte fld i b) i = b := by
  rcases Nat.mod_two_eq_zero_or_one i with hp | hp <;> simp [bodyByteAt, storeBodyByte, h, hp]

/-- The unpacker leaves every byte with another number (42_body.md R92, R96 "at most one byte of `fld`"). -/
theorem bodyByteAt_store_of_ne (fld : Vector Word 14) {i j : Nat} (b : Byte) (h : j ≠ i) :
    bodyByteAt (storeBodyByte fld i b) j = bodyByteAt fld j := by
  by_cases hi : i < 28
  · by_cases hj : j < 28
    · by_cases hw : i / 2 = j / 2
      · have hm : (i % 2 = 0 ∧ j % 2 = 1) ∨ (i % 2 = 1 ∧ j % 2 = 0) := by omega
        rcases hm with ⟨hp, hq⟩ | ⟨hp, hq⟩ <;> simp [bodyByteAt, storeBodyByte, hi, hj, hp, hq, hw]
      · simp [bodyByteAt, storeBodyByte, hi, hj, hw]
    · simp [bodyByteAt, hj]
  · simp [storeBodyByte, hi]

/-- Bytes with number 28 or more are not stored (42_body.md R95). -/
theorem storeBodyByte_of_le (fld : Vector Word 14) {i : Nat} (b : Byte) (h : 28 ≤ i) : storeBodyByte fld i b = fld := by
  simp [storeBodyByte, Nat.not_lt.mpr h]

/-- Two field files with the same 28 bytes are equal. -/
theorem fld_ext {f g : Vector Word 14} (h : ∀ i, i < 28 → bodyByteAt f i = bodyByteAt g i) : f = g := by
  apply Vector.ext
  intro w hw
  have hhi := h (2 * w) (by omega)
  have hlo := h (2 * w + 1) (by omega)
  have h0 : 2 * w < 28 := by omega
  have h1 : 2 * w + 1 < 28 := by omega
  have hd : (2 * w + 1) / 2 = w := by omega
  have hm : (2 * w + 1) % 2 ≠ 0 := by omega
  refine word_ext ?_ ?_
  · simpa [bodyByteAt, h0] using hhi
  · simpa [bodyByteAt, h1, hd, hm] using hlo

/-- The sum of the first bytes does not see a byte stored at or after their end. -/
theorem byteSum_store_of_le (fld : Vector Word 14) (b : Byte) {i : Nat} :
    ∀ {n : Nat}, n ≤ i → byteSum (storeBodyByte fld i b) n = byteSum fld n
  | 0, _ => rfl
  | n + 1, h => by
    simp [byteSum, byteSum_store_of_le fld b (Nat.le_of_succ_le h), bodyByteAt_store_of_ne fld b (Nat.ne_of_lt h)]

/-- At most 255 for each byte. -/
theorem byteSum_le (fld : Vector Word 14) : ∀ n, byteSum fld n ≤ 255 * n
  | 0 => Nat.le_refl 0
  | n + 1 => by
    have h := byteSum_le fld n
    have hb := (bodyByteAt fld n).isLt
    simp only [byteSum]
    omega

/-- The checksum engine adds without wrapping while the sum stays below 2^16 (42_body.md R94, R98). -/
theorem toNat_sumBodyByte (c : Word) (i : Nat) (b : Byte) (h : c.toNat + b.toNat < 65536) :
    (sumBodyByte c i b).toNat = if i < 26 then c.toNat + b.toNat else c.toNat := by
  have hb : (b.setWidth 16).toNat = b.toNat := by
    rw [BitVec.toNat_setWidth, Nat.mod_eq_of_lt (Nat.lt_of_lt_of_le b.isLt (by decide))]
  by_cases hi : i < 26
  · rw [sumBodyByte, if_pos hi, if_pos hi, BitVec.toNat_add, hb, Nat.mod_eq_of_lt h]
  · rw [sumBodyByte, if_neg hi, if_neg hi]

end Sys2Proof.Machine
end

