-- ==== Sys2Proof/Laws/Decode.lean ====
section
/-! SUPPORT. What the decoder answers, said once: the operation of every state and condition (30_encoding.md R66, R120). -/

namespace Sys2Proof

/-- The operation of a cycle by its fields, in the priority order of 60_exceptions.md R120: reset, then `link_err` in a
consuming state, then the state's own operation. -/
def selectOp (rst linkErr rxValid : Bool) (st : StCode) (q : Bool) (b : Byte) : Instr :=
  if rst then .reset
  else
    match st with
    | .sVlen => if q then .vlenOk else .vlenBad
    | .sVsum => if q then .vsumOk else .vsumBad
    | .sEmit => if q then .emitDone else .emitHold
    | .sFault => .faultHold
    | .sM0 => if linkErr then .linkFault else if !rxValid then .rxWait else .m0Capture b
    | .sM1 =>
      if linkErr then .linkFault else if !rxValid then .rxWait
      else if q && b == 0x4D#8 then .m1Match else .m1Mismatch q b
    | .sL0 => if linkErr then .linkFault else if !rxValid then .rxWait else .lenHi b
    | .sL1 =>
      if linkErr then .linkFault else if !rxValid then .rxWait
      else if q && b == 0x00#8 then .lenLoZero else .lenLo q b
    | .sBody => if linkErr then .linkFault else if !rxValid then .rxWait else if q then .bodyLast b else .bodyByte b

/-- A row tests the two bytes of a word apart. -/
theorem and_append_beq (h b mh ml ph pl : Byte) :
    (((h ++ b : Word) &&& (mh ++ ml : Word)) == (ph ++ pl : Word)) = ((h &&& mh == ph) && (b &&& ml == pl)) := by
  have e : ((h ++ b : Word) &&& (mh ++ ml : Word)) = (h &&& mh) ++ (b &&& ml) := BitVec.and_append
  rw [e, Bool.eq_iff_iff, Bool.and_eq_true, beq_iff_eq, beq_iff_eq, beq_iff_eq]
  constructor
  · intro q
    exact ⟨by simpa using congrArg Machine.hiByte q, by simpa using congrArg Machine.loByte q⟩
  · rintro ⟨rfl, rfl⟩
    rfl

/-- The first byte of a row's pattern and mask, then the second. -/
theorem hits_append (n : String) (op : Word → Instr) (h b mh ml ph pl : Byte) :
    (DecodeRow.mk n (ph ++ pl) (mh ++ ml) op).hits (h ++ b) = ((h &&& mh == ph) && (b &&& ml == pl)) :=
  and_append_beq h b mh ml ph pl

theorem byte_and_zero (b : Byte) : b &&& 0x00#8 = 0x00#8 := by simp
theorem byte_and_ones (b : Byte) : b &&& 0xFF#8 = b := BitVec.and_allOnes

/-- The decode table with its patterns and masks written as bytes. -/
theorem decodeTable_bytes : decodeTable =
  [ ⟨"RESET",       0x80#8 ++ 0x00#8, 0x80#8 ++ 0x00#8, fun _ => .reset⟩,
    ⟨"LINK_FAULT",  0x40#8 ++ 0x00#8, 0xD0#8 ++ 0x00#8, fun _ => .linkFault⟩,
    ⟨"RX_WAIT",     0x00#8 ++ 0x00#8, 0xF0#8 ++ 0x00#8, fun _ => .rxWait⟩,
    ⟨"M0_CAPTURE",  0x20#8 ++ 0x00#8, 0xFE#8 ++ 0x00#8, fun w => .m0Capture (wordByte w)⟩,
    ⟨"M1_MATCH",    0x23#8 ++ 0x4D#8, 0xFF#8 ++ 0xFF#8, fun _ => .m1Match⟩,
    ⟨"M1_MISMATCH", 0x22#8 ++ 0x00#8, 0xFE#8 ++ 0x00#8, fun w => .m1Mismatch (wordQ w) (wordByte w)⟩,
    ⟨"LEN_HI",      0x24#8 ++ 0x00#8, 0xFE#8 ++ 0x00#8, fun w => .lenHi (wordByte w)⟩,
    ⟨"LEN_LO_ZERO", 0x27#8 ++ 0x00#8, 0xFF#8 ++ 0xFF#8, fun _ => .lenLoZero⟩,
    ⟨"LEN_LO",      0x26#8 ++ 0x00#8, 0xFE#8 ++ 0x00#8, fun w => .lenLo (wordQ w) (wordByte w)⟩,
    ⟨"BODY_LAST",   0x29#8 ++ 0x00#8, 0xFF#8 ++ 0x00#8, fun w => .bodyLast (wordByte w)⟩,
    ⟨"BODY_BYTE",   0x28#8 ++ 0x00#8, 0xFF#8 ++ 0x00#8, fun w => .bodyByte (wordByte w)⟩,
    ⟨"VLEN_OK",     0x11#8 ++ 0x00#8, 0x9F#8 ++ 0x00#8, fun _ => .vlenOk⟩,
    ⟨"VLEN_BAD",    0x10#8 ++ 0x00#8, 0x9F#8 ++ 0x00#8, fun _ => .vlenBad⟩,
    ⟨"VSUM_OK",     0x13#8 ++ 0x00#8, 0x9F#8 ++ 0x00#8, fun _ => .vsumOk⟩,
    ⟨"VSUM_BAD",    0x12#8 ++ 0x00#8, 0x9F#8 ++ 0x00#8, fun _ => .vsumBad⟩,
    ⟨"EMIT_DONE",   0x15#8 ++ 0x00#8, 0x9F#8 ++ 0x00#8, fun _ => .emitDone⟩,
    ⟨"EMIT_HOLD",   0x14#8 ++ 0x00#8, 0x9F#8 ++ 0x00#8, fun _ => .emitHold⟩,
    ⟨"FAULT_HOLD",  0x1E#8 ++ 0x00#8, 0x9E#8 ++ 0x00#8, fun _ => .faultHold⟩ ] := rfl

@[simp] theorem wordByte_append (h b : Byte) : wordByte (h ++ b) = b := Machine.loByte_append h b

theorem wordQ_append (h b : Byte) : wordQ (h ++ b) = h.getLsbD 0 := by
  have e := BitVec.getLsbD_append (x := h) (y := b) (i := 8)
  rwa [if_neg (by decide)] at e

theorem wordRst_append (h b : Byte) : wordRst (h ++ b) = h.getLsbD 7 := by
  have e := BitVec.getLsbD_append (x := h) (y := b) (i := 15)
  rwa [if_neg (by decide)] at e

theorem wordSt_append (h b : Byte) : wordSt (h ++ b) = h.extractLsb' 1 4 := by
  apply BitVec.eq_of_getElem_eq
  intro i hi
  have e := BitVec.getLsbD_append (x := h) (y := b) (i := 9 + i)
  rw [if_neg (by omega), show 9 + i - 8 = 1 + i by omega] at e
  exact (BitVec.getElem_extractLsb' hi).trans (e.trans (BitVec.getElem_extractLsb' hi).symm)

/-- The first byte of a decode word. -/
def wordHead (rst linkErr rxValid : Bool) (st : StCode) (q : Bool) : Byte :=
  BitVec.ofBool rst ++ BitVec.ofBool linkErr ++ BitVec.ofBool rxValid ++ st.code ++ BitVec.ofBool q

theorem mkWord_eq (rst linkErr rxValid : Bool) (st : StCode) (q : Bool) (b : Byte) :
    mkWord rst linkErr rxValid st.code q b = wordHead rst linkErr rxValid st q ++ b := rfl

/-- The operation of the first row of a list that takes the word, or FAULT_HOLD. -/
def firstOp (rows : List DecodeRow) (w : Word) : Instr :=
  match rows.find? (·.hits w) with
  | some r => r.op w
  | none => .faultHold

theorem firstOp_nil (w : Word) : firstOp [] w = .faultHold := rfl

theorem firstOp_cons (r : DecodeRow) (rows : List DecodeRow) (w : Word) :
    firstOp (r :: rows) w = if r.hits w = true then r.op w else firstOp rows w := by
  cases hr : r.hits w <;> simp [firstOp, hr]

/-- The decode of a word given by its bytes: which row takes it is a matter of closed first bytes and of one test of `b`. -/
theorem decode_append (h b : Byte) :
    decode (h ++ b) =
      if reservedCode (h.extractLsb' 1 4) && !h.getLsbD 7 then .faultHold
      else if h &&& 0x80#8 = 0x80#8 then .reset
      else if h &&& 0xD0#8 = 0x40#8 then .linkFault
      else if h &&& 0xF0#8 = 0x00#8 then .rxWait
      else if h &&& 0xFE#8 = 0x20#8 then .m0Capture b
      else if h = 0x23#8 ∧ b = 0x4D#8 then .m1Match
      else if h &&& 0xFE#8 = 0x22#8 then .m1Mismatch (h.getLsbD 0) b
      else if h &&& 0xFE#8 = 0x24#8 then .lenHi b
      else if h = 0x27#8 ∧ b = 0x00#8 then .lenLoZero
      else if h &&& 0xFE#8 = 0x26#8 then .lenLo (h.getLsbD 0) b
      else if h = 0x29#8 then .bodyLast b
      else if h = 0x28#8 then .bodyByte b
      else if h &&& 0x9F#8 = 0x11#8 then .vlenOk
      else if h &&& 0x9F#8 = 0x10#8 then .vlenBad
      else if h &&& 0x9F#8 = 0x13#8 then .vsumOk
      else if h &&& 0x9F#8 = 0x12#8 then .vsumBad
      else if h &&& 0x9F#8 = 0x15#8 then .emitDone
      else if h &&& 0x9F#8 = 0x14#8 then .emitHold
      else .faultHold := by
  have hd : decode (h ++ b) = if (reservedCode (wordSt (h ++ b)) && !wordRst (h ++ b)) = true then .faultHold
      else firstOp decodeTable (h ++ b) := rfl
  rw [hd, wordSt_append, wordRst_append, decodeTable_bytes]
  simp only [firstOp_cons, firstOp_nil, hits_append, byte_and_zero, byte_and_ones, beq_self_eq_true, Bool.and_true,
    Bool.and_eq_true, beq_iff_eq, wordByte_append, wordQ_append, ite_self]

/-- The decode table selects the operation of the fields, whatever the fields (30_encoding.md R66). -/
theorem decode_mkWord (rst linkErr rxValid : Bool) (st : StCode) (q : Bool) (b : Byte) :
    decode (mkWord rst linkErr rxValid st.code q b) = selectOp rst linkErr rxValid st q b := by
  rw [mkWord_eq, decode_append]
  cases rst <;> cases linkErr <;> cases rxValid <;> cases st <;> cases q <;>
    simp [selectOp, wordHead, StCode.code, reservedCode]

end Sys2Proof
end

