-- ==== Sys2Proof/Laws/PerInstr.lean ====
section
/-! SUPPORT. A statement about every operation as syntax, one lemma per constructor: its word lies in its own row. -/

namespace Sys2Proof.Laws.EncodesItsRow

/-- The operation's word matches the pattern of the operation's own row under its mask (30_encoding.md R66). -/
def Statement (i : Instr) : Prop := ∃ r, i.row = some r ∧ r.hits (encode i) = true

theorem reset : Statement (.reset) :=
  ⟨_, rfl, by decide⟩

theorem linkFault : Statement (.linkFault) :=
  ⟨_, rfl, by decide⟩

theorem rxWait : Statement (.rxWait) :=
  ⟨_, rfl, by decide⟩

theorem m0Capture (b : Byte) : Statement (.m0Capture b) :=
  ⟨_, rfl, (hits_append _ _ 0x20#8 b 0xFE#8 0x00#8 0x20#8 0x00#8).trans (by simp)⟩

theorem m1Match : Statement (.m1Match) :=
  ⟨_, rfl, by decide⟩

theorem m1Mismatch (q : Bool) (b : Byte) : Statement (.m1Mismatch q b) := by
  cases q
  · exact ⟨_, rfl, (hits_append _ _ 0x22#8 b 0xFE#8 0x00#8 0x22#8 0x00#8).trans (by simp)⟩
  · exact ⟨_, rfl, (hits_append _ _ 0x23#8 b 0xFE#8 0x00#8 0x22#8 0x00#8).trans (by simp)⟩

theorem lenHi (b : Byte) : Statement (.lenHi b) :=
  ⟨_, rfl, (hits_append _ _ 0x24#8 b 0xFE#8 0x00#8 0x24#8 0x00#8).trans (by simp)⟩

theorem lenLo (q : Bool) (b : Byte) : Statement (.lenLo q b) := by
  cases q
  · exact ⟨_, rfl, (hits_append _ _ 0x26#8 b 0xFE#8 0x00#8 0x26#8 0x00#8).trans (by simp)⟩
  · exact ⟨_, rfl, (hits_append _ _ 0x27#8 b 0xFE#8 0x00#8 0x26#8 0x00#8).trans (by simp)⟩

theorem lenLoZero : Statement (.lenLoZero) :=
  ⟨_, rfl, by decide⟩

theorem bodyByte (b : Byte) : Statement (.bodyByte b) :=
  ⟨_, rfl, (hits_append _ _ 0x28#8 b 0xFF#8 0x00#8 0x28#8 0x00#8).trans (by simp)⟩

theorem bodyLast (b : Byte) : Statement (.bodyLast b) :=
  ⟨_, rfl, (hits_append _ _ 0x29#8 b 0xFF#8 0x00#8 0x29#8 0x00#8).trans (by simp)⟩

theorem vlenOk : Statement (.vlenOk) :=
  ⟨_, rfl, by decide⟩

theorem vlenBad : Statement (.vlenBad) :=
  ⟨_, rfl, by decide⟩

theorem vsumOk : Statement (.vsumOk) :=
  ⟨_, rfl, by decide⟩

theorem vsumBad : Statement (.vsumBad) :=
  ⟨_, rfl, by decide⟩

theorem emitDone : Statement (.emitDone) :=
  ⟨_, rfl, by decide⟩

theorem emitHold : Statement (.emitHold) :=
  ⟨_, rfl, by decide⟩

theorem faultHold : Statement (.faultHold) :=
  ⟨_, rfl, by decide⟩

end Sys2Proof.Laws.EncodesItsRow
end

