-- ==== Sys2Proof/Machine/Stimulus.lean ====
section
/-! DEFINITION. Stimulus scripts and traces (30_encoding.md R74 to R76): the launch premises of a run
(70_reset_and_hazards.md R140) and the inputs they give each cycle. -/

namespace Sys2Proof.Machine

/-- The directives of a script (30_encoding.md R74). -/
inductive Directive where
  | bytes (bs : List Byte)
  | frame (words : List Word)
  | frameBang (words : List Word) (c : Word)
  | flush (draws : List Nat)
  | linkerr (n : Nat)
  | ready (always : Bool)
  | ts (values : List Timestamp)
  | policy (p : LenPolicy)
deriving DecidableEq, Repr

/-- What a script fixes (30_encoding.md R74, 70_reset_and_hazards.md R140). -/
structure Stimulus where
  bytes : List Byte
  flushDraws : List Nat
  linkErrAt : Option Nat
  ready : Bool
  tsValues : List Timestamp
  policy : LenPolicy
deriving DecidableEq, Repr

/-- The empty script with its defaults: `ready always`, `policy DISCARD` (R74). -/
def Stimulus.empty : Stimulus :=
  { bytes := [], flushDraws := [], linkErrAt := none, ready := true, tsValues := [], policy := .discard }

/-- A directive added to a script: bytes and frames are appended to the input sequence (R74). DESIGN CHOICE (log 26), for
R74 is silent on a repeated directive: repeated `flush` and `ts` lines append their lists, and of repeated `linkerr`,
`ready` and `policy` lines the last one counts. -/
def Stimulus.add (x : Stimulus) : Directive → Stimulus
  | .bytes bs => { x with bytes := x.bytes ++ bs }
  | .frame words => { x with bytes := x.bytes ++ frameDirective words }
  | .frameBang words c => { x with bytes := x.bytes ++ frameBangDirective words c }
  | .flush draws => { x with flushDraws := x.flushDraws ++ draws }
  | .linkerr n => { x with linkErrAt := some n }
  | .ready always => { x with ready := always }
  | .ts values => { x with tsValues := x.tsValues ++ values }
  | .policy p => { x with policy := p }

/-- A script from its lines. -/
def Stimulus.ofDirectives (ds : List Directive) : Stimulus := ds.foldl Stimulus.add .empty

/-- The state a script starts from: reset, with its bytes in the input sequence and its policy (R74). -/
def Stimulus.launch (x : Stimulus) : State := { State.reset with rx := x.bytes, lenPolicy := x.policy }

/-- How many flushes an observer has seen. -/
def flushCount : List Observation → Nat
  | [] => 0
  | .flushPulse :: os => flushCount os + 1
  | .record _ :: os => flushCount os
  | .faultRose _ :: os => flushCount os

/-- How many records an observer has seen. -/
def recordCount : List Observation → Nat
  | [] => 0
  | .record _ :: os => recordCount os + 1
  | .flushPulse :: os => recordCount os
  | .faultRose _ :: os => recordCount os

/-- The inputs a script gives the cycle that starts in `s` (R74): every byte available; the next flush draw, 0 when none
is left; `link_err` high from the first cycle in which FSYNC is in a consuming state and would consume byte `n`
(log 20); the next timestamp, free when none is left. -/
def Stimulus.inputs (x : Stimulus) (s : State) : CycleInput where
  rst := false
  linkErr := (s.st.consuming && x.linkErrAt == some (x.bytes.length - s.rx.length)) || s.faultCode == .link
  present := true
  idleData := 0#8
  outReady := x.ready
  tsIn := x.tsValues.getD (recordCount s.observed) (Config.freeInput s.cycle).tsIn
  flushDraw := x.flushDraws.getD (flushCount s.observed) 0

/-- The state `s` with the script's inputs placed for its cycle. -/
def Stimulus.drive (x : Stimulus) (s : State) : State := { s with env := [x.inputs s] }

/-- `n` cycles under a script, with the trace of the operations performed (30_encoding.md R75). A model's stop ends it. -/
def Stimulus.runTrace (x : Stimulus) : Nat → State → List Instr × State
  | 0, s => ([], s)
  | n + 1, s =>
    match step (x.drive s) with
    | .next t => let (tr, u) := x.runTrace n t; ((x.drive s).operation :: tr, u)
    | .fault _ => ([], s)
    | .refused _ => ([], s)

/-- A script's run is quiescent when its last cycle starts in `s` (70_reset_and_hazards.md R139): RX_WAIT with the input
exhausted, EMIT_HOLD under `ready never`, or FAULT_HOLD. -/
def Stimulus.quiescent (x : Stimulus) (s : State) : Bool :=
  match (x.drive s).operation with
  | .rxWait => s.rx.isEmpty
  | .emitHold => !x.ready
  | .faultHold => true
  | .reset | .linkFault | .m0Capture _ | .m1Match | .m1Mismatch _ _ | .lenHi _ | .lenLo _ _ | .lenLoZero
  | .bodyByte _ | .bodyLast _ | .vlenOk | .vlenBad | .vsumOk | .vsumBad | .emitDone => false

end Sys2Proof.Machine
end

