-- ==== Sys2Proof/Tests/Slice0.lean ====
section
/-! SUPPORT. Tests: what WellFormed refuses, words written out from the spec, one cycle of every operation with the results
95_test_vectors.md gives, and a witness for the hypotheses of every statement that has hypotheses. -/

namespace Sys2Proof.Tests

open Sys2Proof Sys2Proof.Machine

/-! ### Helpers -/

/-- A cycle with a byte offered, the link up, the consumer ready and no flush draw. -/
def served : CycleInput :=
  { rst := false, linkErr := false, present := true, idleData := 0x00#8, outReady := true, tsIn := 0#_, flushDraw := 0 }

/-- A cycle with no byte offered and no ready consumer. -/
def quiet : CycleInput := { served with present := false, outReady := false }

/-- A cycle with the link down and a byte offered. -/
def linkDown : CycleInput := { served with linkErr := true }

/-- A cycle in reset, with the link down as well. -/
def inReset : CycleInput := { linkDown with rst := true }

/-- The state `c`, the bytes `rx` and `n` served cycles. -/
def ready (c : StCode) (rx : List Byte) (n : Nat := 1) : State :=
  { State.reset with st := c, rx := rx, env := List.replicate n served }

/-- A state in the body, as in the vectors V-B. -/
def inBody (cnt csum : Word) (b : Byte) : State :=
  { ready .sBody [b] with len := 28#16, cnt := cnt, csum := csum }

/-- A state in the checksum comparison. -/
def inVsum (field csum : Word) : State :=
  { ready .sVsum [0x42#8] with len := 28#16, cnt := 28#16, csum := csum, fld := Vector.replicate 14 field }

/-- What `f` reads from the state after one cycle. -/
def after {α : Type} (f : State → α) (s : State) : Option α :=
  match step s with
  | .next t => some (f t)
  | .fault _ => none
  | .refused _ => none

/-- `0x42` at a pair position. -/
def stM0 : State := ready .sM0 [0x42#8, 0x11#8]
/-- `0x42` was the first byte, `0x4D` is the second. -/
def stMatch : State := { ready .sM1 [0x4D#8] with m0ok := true }
/-- V-S6: the pair (11, 22), the flush drawing 2. -/
def stMismatch : State :=
  { ready .sM1 [0x22#8, 0x33#8, 0x44#8] with m0ok := false, env := [{ served with flushDraw := 2 }] }
/-- The high byte 0x12 of a length. -/
def stLenHi : State := { ready .sL0 [0x12#8] with len := 0xFFFF#16 }
/-- The low byte 0x1C of the length 0x001C. -/
def stLenLo : State := { ready .sL1 [0x1C#8] with cnt := 9#16 }
/-- The low byte of the length 0. -/
def stLenZero : State := ready .sL1 [0x00#8]
/-- The length check with length 28. -/
def stVlen28 : State := { ready .sVlen [0x42#8] with len := 28#16, cnt := 28#16 }
/-- V-V2: the length check with length 16 under DISCARD. -/
def stVlen16 : State := { ready .sVlen [0x42#8] with len := 16#16, cnt := 16#16 }
/-- V-V3: the same under FAULT. -/
def stVlen16Fault : State := { stVlen16 with lenPolicy := .fault }
/-- A presented record whose words are 0 to 13 and a ready consumer. -/
def stEmit : State := { ready .sEmit [] with fld := Vector.ofFn fun i => BitVec.ofNat 16 i.val }
/-- V-V8: the same with a consumer that is not ready and a byte upstream. -/
def stEmitHeld : State := { stEmit with rx := [0x42#8], env := [{ served with outReady := false }] }
/-- V-F1: the link goes down inside a body with a byte present. -/
def stLinkDown : State := { inBody 6#16 0x00BE#16 0x04#8 with env := [linkDown] }
/-- V-F4: stopped with code LINK, a byte present, a ready consumer. -/
def stFaulted : State := { ready .sFault [0x42#8] with faultCode := .link }
/-- V-F6 and V-R2: the same in reset with the link down. -/
def stReset : State := { stFaulted with env := [inReset] }
/-- V-S8: no byte inside a pair. -/
def stWait : State := { ready .sM1 [0x4D#8] with m0ok := true, env := [quiet] }

/-! ### WellFormed: one ill-formed term for each check -/

theorem test_wellFormed_refuses_mismatch_of_a_match : (Instr.m1Mismatch true 0x4D#8).wellFormed = false := by decide
theorem test_wellFormed_accepts_mismatches :
    (Instr.m1Mismatch false 0x4D#8).wellFormed = true ∧ (Instr.m1Mismatch true 0x42#8).wellFormed = true := by decide
theorem test_wellFormed_refuses_nonzero_form_of_zero : (Instr.lenLo true 0x00#8).wellFormed = false := by decide
theorem test_wellFormed_accepts_lengths :
    (Instr.lenLo false 0x00#8).wellFormed = true ∧ (Instr.lenLo true 0x01#8).wellFormed = true := by decide

/-! ### Decode: words written out field by field, rst link_err rx_valid st q b (30_encoding.md R63; vectors L2.1) -/

theorem test_decode_reset : decode 0b1_0_0_0000_0_00000000#16 = .reset ∧ decode 0b1_1_1_1111_1_11111111#16 = .reset ∧
    decode 0b1_0_0_1111_0_00000000#16 = .reset := by decide
theorem test_decode_linkFault :
    decode 0b0_1_0_0000_0_00000000#16 = .linkFault ∧ decode 0b0_1_0_0100_0_00000000#16 = .linkFault := by decide
theorem test_decode_rxWait :
    decode 0b0_0_0_0000_0_00000000#16 = .rxWait ∧ decode 0b0_0_0_0011_0_00000000#16 = .rxWait := by decide
theorem test_decode_m0Capture : decode 0b0_0_1_0000_0_00000000#16 = .m0Capture 0x00#8 ∧
    decode 0b0_0_1_0000_0_11111111#16 = .m0Capture 0xFF#8 := by decide
theorem test_decode_m1Match : decode 0b0_0_1_0001_1_01001101#16 = .m1Match := by decide
theorem test_decode_m1Mismatch : decode 0b0_0_1_0001_1_01000010#16 = .m1Mismatch true 0x42#8 ∧
    decode 0b0_0_1_0001_0_01001101#16 = .m1Mismatch false 0x4D#8 ∧
    decode 0b0_0_1_0001_0_01000010#16 = .m1Mismatch false 0x42#8 := by decide
theorem test_decode_lenHi : decode 0b0_0_1_0010_0_00000000#16 = .lenHi 0x00#8 ∧
    decode 0b0_0_1_0010_0_11111111#16 = .lenHi 0xFF#8 := by decide
theorem test_decode_lenLoZero : decode 0b0_0_1_0011_1_00000000#16 = .lenLoZero := by decide
theorem test_decode_lenLo : decode 0b0_0_1_0011_1_00000001#16 = .lenLo true 0x01#8 ∧
    decode 0b0_0_1_0011_0_00000000#16 = .lenLo false 0x00#8 := by decide
theorem test_decode_body : decode 0b0_0_1_0100_1_01000010#16 = .bodyLast 0x42#8 ∧
    decode 0b0_0_1_0100_0_01000010#16 = .bodyByte 0x42#8 := by decide
theorem test_decode_vlen : decode 0b0_0_0_1000_1_00000000#16 = .vlenOk ∧ decode 0b0_1_1_1000_1_00000000#16 = .vlenOk ∧
    decode 0b0_0_0_1000_0_00000000#16 = .vlenBad := by decide
theorem test_decode_vsum : decode 0b0_0_0_1001_1_00000000#16 = .vsumOk ∧ decode 0b0_0_1_1001_1_00000000#16 = .vsumOk ∧
    decode 0b0_0_0_1001_0_00000000#16 = .vsumBad := by decide
theorem test_decode_emit : decode 0b0_0_0_1010_1_00000000#16 = .emitDone ∧
    decode 0b0_0_0_1010_0_00000000#16 = .emitHold ∧ decode 0b0_1_0_1010_0_00000000#16 = .emitHold := by decide
theorem test_decode_faultHold :
    decode 0b0_0_0_1111_0_00000000#16 = .faultHold ∧ decode 0b0_1_1_1111_0_11111111#16 = .faultHold := by decide
/-- The reserved codes 5, 6, 7, 0xB, 0xC, 0xD, 0xE (10_state.md R18), even where a row of the table would match. -/
theorem test_decode_reserved : decode 0b0_0_0_1011_0_00000000#16 = .faultHold ∧
    decode 0b0_0_0_0101_0_00000000#16 = .faultHold ∧ decode 0b0_1_0_0110_0_00000000#16 = .faultHold ∧
    decode 0b0_0_0_0111_0_00000000#16 = .faultHold ∧ decode 0b0_0_1_1100_1_00000000#16 = .faultHold ∧
    decode 0b0_0_0_1101_0_00000000#16 = .faultHold ∧ decode 0b0_0_0_1110_0_00000000#16 = .faultHold := by decide
theorem test_decodeTableWord_rejects_wide_rows :
    decodeTableWord 16 0x234D = some .m1Match ∧ decodeTableWord 24 0x234D = none := by decide
theorem test_withFetchWord_presents_the_word :
    (State.reset.withFetchWord 16 0x2701).operation = .lenLo true 0x01#8 ∧
    (State.reset.withFetchWord 16 0x1300).operation = .vsumOk := by decide

/-! ### One cycle of every operation -/

theorem test_reset_wins_and_clears_the_fault : stReset.operation = .reset ∧ after (·.st) stReset = some .sM0 ∧
    after (·.faultCode) stReset = some .none ∧ after (·.rx) stReset = some [0x42#8] := by decide
theorem test_reset_drops_a_presented_record :
    after (·.observed) { stEmit with env := [{ served with rst := true }] } = some [] := by decide
theorem test_linkFault_keeps_the_byte : stLinkDown.operation = .linkFault ∧ after (·.st) stLinkDown = some .sFault ∧
    after (·.faultCode) stLinkDown = some .link ∧ after (·.rx) stLinkDown = some [0x04#8] ∧
    after (·.cnt) stLinkDown = some 6#16 := by decide
theorem test_rxWait_changes_nothing : stWait.operation = .rxWait ∧ after (·.st) stWait = some .sM1 ∧
    after (·.m0ok) stWait = some true ∧ after (·.rx) stWait = some [0x4D#8] := by decide
theorem test_m0Capture_of_42 : stM0.operation = .m0Capture 0x42#8 ∧ after (·.m0ok) stM0 = some true ∧
    after (·.st) stM0 = some .sM1 ∧ after (·.rx) stM0 = some [0x11#8] := by decide
theorem test_m0Capture_of_another_byte :
    after (·.m0ok) { ready .sM0 [0x4D#8] with m0ok := true } = some false ∧
    after (·.observed) (ready .sM0 [0x4D#8]) = some [] := by decide
theorem test_m1Match : stMatch.operation = .m1Match ∧ after (·.st) stMatch = some .sL0 ∧
    after (·.observed) stMatch = some [] := by decide
theorem test_m1Mismatch_flushes : stMismatch.operation = .m1Mismatch false 0x22#8 ∧
    after (·.st) stMismatch = some .sM0 ∧ after (·.rx) stMismatch = some [] ∧
    after (·.observed) stMismatch = some [.flushPulse] := by decide
theorem test_m1Mismatch_does_not_reuse_42 :
    after (fun t => (t.st, t.rx)) { ready .sM1 [0x42#8, 0x4D#8] with m0ok := true } = some (.sM0, [0x4D#8]) := by decide
theorem test_lenHi_clears_the_low_byte : stLenHi.operation = .lenHi 0x12#8 ∧
    after (·.len) stLenHi = some 0x1200#16 ∧ after (·.st) stLenHi = some .sL1 := by decide
theorem test_lenLo_starts_the_body : stLenLo.operation = .lenLo true 0x1C#8 ∧ after (·.len) stLenLo = some 0x001C#16 ∧
    after (·.cnt) stLenLo = some 0#16 ∧ after (·.csum) stLenLo = some 0x00AB#16 ∧
    after (·.st) stLenLo = some .sBody := by decide
theorem test_lenLo_of_0100 :
    after (fun t => (t.len, t.st)) { ready .sL1 [0x00#8] with len := 0x0100#16 } = some (0x0100#16, .sBody) := by decide
theorem test_lenLoZero : stLenZero.operation = .lenLoZero ∧ after (·.st) stLenZero = some .sVlen ∧
    after (·.csum) stLenZero = some 0x00AB#16 := by decide
/-- V-B1 and V-B2. -/
theorem test_bodyByte_high_and_low :
    after (fun t => (t.fld[0], t.csum, t.cnt, t.st)) (inBody 0#16 0x00AB#16 0x12#8) =
      some (0x1200#16, 0x00BD#16, 1#16, .sBody) ∧
    after (fun t => (t.fld[0], t.csum, t.cnt)) { inBody 1#16 0x00BD#16 0x34#8 with fld := Vector.replicate 14 0x1200#16 } =
      some (0x1234#16, 0x00F1#16, 2#16) := by decide
/-- V-B3 and R95: byte 26 is stored and not summed, byte 28 is neither. -/
theorem test_bodyByte_past_the_sum :
    after (fun t => (t.fld[13], t.csum, t.cnt)) (inBody 26#16 0x01F3#16 0x01#8) = some (0x0100#16, 0x01F3#16, 27#16) ∧
    after (fun t => (t.fld[13], t.csum, t.cnt, t.st)) { inBody 28#16 0x01F3#16 0x01#8 with len := 30#16 } =
      some (0#16, 0x01F3#16, 29#16, .sBody) := by decide
/-- V-B4. -/
theorem test_bodyLast :
    (inBody 27#16 0x01F3#16 0xF3#8).operation = .bodyLast 0xF3#8 ∧
    after (fun t => (t.fld[13], t.cnt, t.st)) (inBody 27#16 0x01F3#16 0xF3#8) = some (0x00F3#16, 28#16, .sVlen) := by decide
/-- V-L5: the last byte of the longest body, and a count that wraps in no frame. -/
theorem test_bodyLast_at_65534 :
    after (fun t => (t.cnt, t.st)) { inBody 65534#16 0#16 0x00#8 with len := 0xFFFF#16 } = some (0xFFFF#16, .sVlen) := by
  decide
theorem test_vlenOk_consumes_no_byte : stVlen28.operation = .vlenOk ∧ after (·.st) stVlen28 = some .sVsum ∧
    after (·.rx) stVlen28 = some [0x42#8] := by decide
theorem test_vlenBad_under_discard : stVlen16.operation = .vlenBad ∧ after (·.st) stVlen16 = some .sM0 ∧
    after (·.observed) stVlen16 = some [] := by decide
theorem test_vlenBad_under_fault : after (·.st) stVlen16Fault = some .sFault ∧
    after (·.faultCode) stVlen16Fault = some .length := by decide
theorem test_vsumOk : (inVsum 0x01F3#16 0x01F3#16).operation = .vsumOk ∧
    after (·.st) (inVsum 0x01F3#16 0x01F3#16) = some .sEmit := by decide
theorem test_vsumOk_samples_the_clock (t : Timestamp) :
    execVsumOk { inVsum 0x01F3#16 0x01F3#16 with env := [{ served with tsIn := t }] } =
      .next { inVsum 0x01F3#16 0x01F3#16 with env := [{ served with tsIn := t }], ts := t, st := .sEmit } := rfl
theorem test_vsumBad_flushes_nothing : (inVsum 0x01F2#16 0x01F3#16).operation = .vsumBad ∧
    after (fun t => (t.st, t.rx)) (inVsum 0x01F2#16 0x01F3#16) = some (.sM0, [0x42#8]) := by decide
theorem test_emitDone_transfers_words_0_to_11 : stEmit.operation = .emitDone ∧
    after (fun t => (t.st, t.observed.length)) stEmit = some (.sM0, 1) ∧
    stEmit.record.fields.toList = [0#16, 1#16, 2#16, 3#16, 4#16, 5#16, 6#16, 7#16, 8#16, 9#16, 10#16, 11#16] := by decide
theorem test_emitHold : stEmitHeld.operation = .emitHold ∧
    after (fun t => (t.st, t.rx, t.observed.length)) stEmitHeld = some (.sEmit, [0x42#8], 0) := by decide
theorem test_faultHold_consumes_no_byte : stFaulted.operation = .faultHold ∧
    after (fun t => (t.st, t.faultCode, t.rx)) stFaulted = some (.sFault, .link, [0x42#8]) := by decide

/-! ### Witnesses: states and operands that meet the hypotheses of the statements -/

/-- One state for each operation, in the order of the table. -/
def oneOfEach : List State :=
  [ stReset, stLinkDown, stWait, stM0, stMatch, stMismatch, stLenHi, stLenZero, stLenLo,
    inBody 27#16 0x01F3#16 0xF3#8, inBody 0#16 0x00AB#16 0x12#8 ] ++
  [ stVlen28, stVlen16, inVsum 0x01F3#16 0x01F3#16, inVsum 0x01F2#16 0x01F3#16, stEmit, stEmitHeld, stFaulted ]

/-- NextStateTable, ObservedEventsOfEveryOperation, BytesAreConsumedOnlyThroughRxReady, ParametersAreFixedAndTimePasses and
the first clause of NonConsumingCyclesAreAtMostThree: every operation is performed by a step that answers a next state. -/
theorem witness_every_operation_steps :
    oneOfEach.map (·.operation.priority) = [1, 2, 3, 4, 5, 6, 7, 8, 9, 10, 11, 12, 13, 14, 15, 16, 17, 18] ∧
    oneOfEach.map (after fun _ => ()) = List.replicate 18 (some ()) := by decide
theorem witness_step : ∃ t, step stM0 = .next t := ⟨_, rfl⟩
theorem witness_step_vlenBad_fault : ∃ t, step stVlen16Fault = .next t := ⟨_, rfl⟩

theorem witness_byte_presented : stM0.rxValid = true := by decide
theorem witness_no_byte_presented : stWait.rxValid = false := by decide
theorem witness_StepRunsTheDecodedOperation :
    decode stMismatch.word = .m1Mismatch false 0x22#8 ∧ (Instr.m1Mismatch false 0x22#8).WellFormed := by decide
/-- R64 at its bounds; the last is the case in which a 16-bit sum would wrap. -/
theorem witness_QualifierFollowsItsTable : oneOfEach.map (·.st) =
      [.sFault, .sBody, .sM1, .sM0, .sM1, .sM1, .sL0, .sL1, .sL1, .sBody, .sBody, .sVlen, .sVlen, .sVsum, .sVsum, .sEmit,
       .sEmit, .sFault] ∧
    (inBody 27#16 0#16 0#8).qualifier = true ∧ (inBody 26#16 0#16 0#8).qualifier = false ∧
    { inBody 0xFFFF#16 0#16 0#8 with len := 0#16 }.qualifier = false := by decide
theorem witness_ReservedStateCodesHoldTheFault :
    (0x1600#16).extractLsb' 9 4 ∈ [0x5#4, 0x6#4, 0x7#4, 0xB#4, 0xC#4, 0xD#4, 0xE#4] ∧ (0x1600#16).getLsbD 15 = false ∧
    (0x9600#16).extractLsb' 9 4 ∈ [0x5#4, 0x6#4, 0x7#4, 0xB#4, 0xC#4, 0xD#4, 0xE#4] ∧ (0x9600#16).getLsbD 15 = true ∧
    ∀ r ∈ decodeTable, 0x1600#16 &&& r.mask ≠ r.pattern := by decide
theorem witness_DefinedWordsTakeTheFirstMatchingRow :
    (0x2042#16).extractLsb' 9 4 ∉ [0x5#4, 0x6#4, 0x7#4, 0xB#4, 0xC#4, 0xD#4, 0xE#4] := by decide

theorem witness_ResetCycle : stReset.inputs.rst = true := by decide
theorem witness_WaitCycle : stWait.st.consuming = true ∧ Up stWait.inputs ∧ stWait.rxValid = false :=
  ⟨by decide, ⟨by decide, by decide⟩, by decide⟩
theorem witness_FirstMagicByteCycle : BytePresent stM0 .sM0 := ⟨by decide, by decide, by decide, by decide⟩
theorem witness_SecondMagicByteCycle_match :
    BytePresent stMatch .sM1 ∧ (stMatch.m0ok = true ∧ stMatch.rxData = 0x4D#8) :=
  ⟨⟨by decide, by decide, by decide, by decide⟩, by decide⟩
theorem witness_SecondMagicByteCycle_mismatch :
    BytePresent stMismatch .sM1 ∧ ¬(stMismatch.m0ok = true ∧ stMismatch.rxData = 0x4D#8) :=
  ⟨⟨by decide, by decide, by decide, by decide⟩, by decide⟩
theorem witness_LengthHighByteCycle : BytePresent stLenHi .sL0 := ⟨by decide, by decide, by decide, by decide⟩
theorem witness_LengthLowByteCycle_nonzero :
    BytePresent stLenLo .sL1 ∧ ¬(stLenLo.len.extractLsb' 8 8 = 0x00#8 ∧ stLenLo.rxData = 0x00#8) :=
  ⟨⟨by decide, by decide, by decide, by decide⟩, by decide⟩
theorem witness_LengthLowByteCycle_zero :
    BytePresent stLenZero .sL1 ∧ (stLenZero.len.extractLsb' 8 8 = 0x00#8 ∧ stLenZero.rxData = 0x00#8) :=
  ⟨⟨by decide, by decide, by decide, by decide⟩, by decide⟩
theorem witness_BodyByteCycle :
    BytePresent (inBody 26#16 0#16 1#8) .sBody ∧ BytePresent (inBody 27#16 0#16 1#8) .sBody :=
  ⟨⟨by decide, by decide, by decide, by decide⟩, ⟨by decide, by decide, by decide, by decide⟩⟩
theorem witness_LengthCheckCycle :
    (stVlen28.st = .sVlen ∧ stVlen28.inputs.rst = false ∧ stVlen28.len = 28#16) ∧
    (stVlen16.st = .sVlen ∧ stVlen16.inputs.rst = false ∧ stVlen16.len ≠ 28#16 ∧ stVlen16.lenPolicy = .discard) ∧
    (stVlen16Fault.st = .sVlen ∧ stVlen16Fault.inputs.rst = false ∧ stVlen16Fault.len ≠ 28#16 ∧
      stVlen16Fault.lenPolicy = .fault) := by decide
theorem witness_ChecksumCheckCycle :
    ((inVsum 7#16 7#16).st = .sVsum ∧ (inVsum 7#16 7#16).inputs.rst = false ∧
      (inVsum 7#16 7#16).fld[13] = (inVsum 7#16 7#16).csum) ∧
    ((inVsum 7#16 8#16).st = .sVsum ∧ (inVsum 7#16 8#16).inputs.rst = false ∧
      (inVsum 7#16 8#16).fld[13] ≠ (inVsum 7#16 8#16).csum) := by decide
theorem witness_EmitCycle :
    (stEmit.st = .sEmit ∧ stEmit.inputs.rst = false ∧ stEmit.inputs.outReady = true) ∧
    (stEmitHeld.st = .sEmit ∧ stEmitHeld.inputs.rst = false ∧ stEmitHeld.inputs.outReady = false) := by decide
theorem witness_LinkFaultCycle :
    stLinkDown.st.consuming = true ∧ stLinkDown.inputs.rst = false ∧ stLinkDown.inputs.linkErr = true := by decide
theorem witness_FaultHoldCycle : stFaulted.st = .sFault ∧ stFaulted.inputs.rst = false := by decide
theorem witness_LinkErrIsIgnoredOutsideConsumingStates :
    [StCode.sVlen, .sVsum, .sEmit, .sFault].map (·.consuming) = [false, false, false, false] ∧
    stVlen28.st.consuming = false := by decide

/-- The outputs of a cycle with `rx_ready`, of one without, of one in `S_EMIT`. -/
theorem witness_OutputsFollowStateAndOperation :
    stM0.outputs.rxReady = true ∧ stWait.outputs.rxReady = false ∧ stMismatch.outputs.rxFlush = true ∧
    stEmit.st = .sEmit ∧ stM0.st ≠ .sEmit := by decide
/-- After one cycle of reset: the link down, a byte present, no byte. -/
theorem witness_FirstCycleAfterReset :
    [linkDown, served, quiet].map (fun x =>
      let s : State := { stM0 with env := [inReset, x] }
      (s.inputs.rst, after (·.inputs.rst) s)) = List.replicate 3 (true, some false) := by decide
theorem witness_FaultsArePrecise_link : ∃ t, step stLinkDown = .next t ∧ stLinkDown.st ≠ .sFault ∧ t.st = .sFault :=
  ⟨_, rfl, by decide, rfl⟩
theorem witness_FaultsArePrecise_length :
    ∃ t, step stVlen16Fault = .next t ∧ stVlen16Fault.st ≠ .sFault ∧ t.st = .sFault :=
  ⟨_, rfl, by decide, rfl⟩

/-! Runs -/

/-- A script of `n` equal cycles gives these inputs in each of them. -/
theorem inputsAt_replicate {s : State} {x : CycleInput} {n j : Nat} (h : s.env = List.replicate n x) (hj : j < n) :
    s.inputsAt j = x := by simp [State.inputsAt, h, hj]

theorem served_replicate {s : State} {n : Nat} (h : s.env = List.replicate n served) : ServedFor s n := fun j hj => by
  rw [inputsAt_replicate h hj]; exact ⟨rfl, rfl, rfl, rfl⟩

theorem witness_FaultsAreFinalUntilReset : ({ stFaulted with env := List.replicate 3 served } : State).st = .sFault ∧
    NoResetFor { stFaulted with env := List.replicate 3 served } 3 :=
  ⟨rfl, fun j hj => by rw [inputsAt_replicate (n := 3) (x := served) rfl hj]; rfl⟩
/-- The first clause of WaitsAreUnbounded, by a presented byte held back and by an exhausted input. -/
theorem witness_WaitsAreUnbounded_no_byte :
    (∀ s ∈ [({ stWait with env := List.replicate 2 quiet } : State), ready .sBody [] 2], s.st.consuming = true ∧
      ∀ j, j < 2 → Up (s.inputsAt j) ∧ ((s.inputsAt j).present = false ∨ s.rx = [])) := by
  intro s hs
  simp only [List.mem_cons, List.not_mem_nil, or_false] at hs
  rcases hs with rfl | rfl
  · exact ⟨by decide, fun j hj => by rw [inputsAt_replicate (n := 2) (x := quiet) rfl hj]; exact ⟨⟨rfl, rfl⟩, .inl rfl⟩⟩
  · exact ⟨by decide, fun j hj => by rw [inputsAt_replicate (n := 2) (x := served) rfl hj]; exact ⟨⟨rfl, rfl⟩, .inr rfl⟩⟩
theorem witness_WaitsAreUnbounded_not_ready :
    ({ stEmit with env := List.replicate 2 quiet } : State).st = .sEmit ∧
    ∀ j, j < 2 → (State.inputsAt { stEmit with env := List.replicate 2 quiet } j).rst = false ∧
      (State.inputsAt { stEmit with env := List.replicate 2 quiet } j).outReady = false :=
  ⟨rfl, fun j hj => by rw [inputsAt_replicate (n := 2) (x := quiet) rfl hj]; exact ⟨rfl, rfl⟩⟩
/-- The second clause of NonConsumingCyclesAreAtMostThree, in each of its three states. -/
theorem witness_NonConsumingCyclesAreAtMostThree (c : StCode) (h : c = .sVlen ∨ c = .sVsum ∨ c = .sEmit) :
    ((ready c [] 3).st = .sVlen ∨ (ready c [] 3).st = .sVsum ∨ (ready c [] 3).st = .sEmit) ∧
    ∀ j, j < 3 → ((ready c [] 3).inputsAt j).rst = false ∧ ((ready c [] 3).inputsAt j).outReady = true :=
  ⟨h, fun j hj => by rw [inputsAt_replicate (n := 3) (x := served) rfl hj]; exact ⟨rfl, rfl⟩⟩
/-- The link goes down in `S_VSUM` and stays down; one cycle later FSYNC is in `S_M0`. -/
theorem witness_HeldLinkErrorIsTaken :
    ∃ s t : State, s.inputs.linkErr = true ∧ LinkErrHeldFor s 1 ∧ NoResetFor s 2 ∧ runCycles 1 s = .next t ∧
      t.st.consuming = true := by
  refine ⟨{ inVsum 7#16 8#16 with env := List.replicate 2 linkDown }, _, rfl, ?_, ?_, rfl, by decide⟩
  · intro j hj _
    exact .inr (by rw [inputsAt_replicate (n := 2) (x := linkDown) rfl (by omega)]; rfl)
  · intro j hj
    rw [inputsAt_replicate (n := 2) (x := linkDown) rfl hj]; rfl
/-- A pair with one wait before its first byte and two before its second; (0x42, 0x4D) and (0x42, 0x42) are both such. -/
theorem witness_PairTestIsStepOne (b : Byte) :
    ∃ s : State, s.st = .sM0 ∧ s.rx = 0x42#8 :: b :: [] ∧ (∀ j, j < 1 + 2 + 2 → Up (s.inputsAt j)) ∧
      ∀ j, j < 1 + 2 + 2 → ((s.inputsAt j).present = true ↔ j = 1 ∨ j = 1 + 2 + 1) := by
  refine ⟨{ ready .sM0 [0x42#8, b] with env := [quiet, served, quiet, quiet, served] }, rfl, rfl, ?_, ?_⟩ <;>
  · intro j hj
    have : j = 0 ∨ j = 1 ∨ j = 2 ∨ j = 3 ∨ j = 4 := by omega
    rcases this with rfl | rfl | rfl | rfl | rfl <;> simp [Up, State.inputsAt, quiet, served]

/-- The 26 data bytes of the reference frame A of 95_test_vectors.md. -/
def frameAData : List Byte :=
  [0x00#8, 0x04#8, 0x00#8, 0x07#8, 0x00#8, 0x08#8, 0x00#8, 0x04#8, 0x00#8, 0x07#8, 0x00#8, 0x08#8, 0x04#8] ++
  [0x92#8, 0x01#8, 0x4E#8, 0x00#8, 0x34#8, 0x00#8, 0x06#8, 0x00#8, 0x02#8, 0x00#8, 0x01#8, 0x00#8, 0x00#8]

theorem test_checksum_of_frame_A : checksumOf frameAData = 0x01F3#16 := by decide
theorem test_largest_checksum : checksumOf (List.replicate 26 0xFF#8) = 0x1A91#16 := by decide
theorem test_frame_A_is_acceptable : acceptable (frameOf frameAData 0x01F3#16) = true ∧
    acceptable (frameOf frameAData 0x01F2#16) = false := by decide

theorem witness_ValidFrameYieldsItsRecord :
    ∃ (s : State) (rest : List Byte), s.st = .sM0 ∧ frameAData.length = 26 ∧
      s.rx = frameOf frameAData (checksumOf frameAData) ++ rest ∧ ServedFor s 35 :=
  ⟨ready .sM0 (frameOf frameAData (checksumOf frameAData) ++ [0x42#8]) 35, _, rfl, rfl, rfl, served_replicate rfl⟩
theorem witness_BadChecksumFrameIsDropped :
    ∃ (s : State) (rest : List Byte), s.st = .sM0 ∧ frameAData.length = 26 ∧ 0x01F2#16 ≠ checksumOf frameAData ∧
      s.rx = frameOf frameAData 0x01F2#16 ++ rest ∧ ServedFor s 34 :=
  ⟨ready .sM0 (frameOf frameAData 0x01F2#16 ++ []) 34, _, rfl, rfl, by decide, rfl, served_replicate rfl⟩
/-- A frame of any length but 28, under either policy. -/
theorem witness_WrongLengthFrameIsConsumedWhole (len : Word) (h : len ≠ 28#16) (p : LenPolicy) :
    ∃ (s : State) (body rest : List Byte), s.st = .sM0 ∧ len ≠ 28#16 ∧ body.length = len.toNat ∧
      s.rx = frameWith len body ++ rest ∧ ServedFor s (len.toNat + 5) ∧ s.lenPolicy = p :=
  ⟨{ ready .sM0 (frameWith len (List.replicate len.toNat 0x55#8) ++ []) (len.toNat + 5) with lenPolicy := p },
    _, _, rfl, h, List.length_replicate, rfl, served_replicate rfl, rfl⟩
theorem witness_WrongLengthFrameIsConsumedWhole_bounds : (0#16 : Word) ≠ 28#16 ∧ (0xFFFF#16 : Word) ≠ 28#16 := by decide
/-- The first clause: body byte 0, and body byte 27 in the checksum field. -/
theorem witness_SingleByteChangesAreDetected_change (i : Nat) (h : i = 0 ∨ i = 27) :
    ∃ (s : State) (rest : List Byte), s.st = .sM0 ∧ frameAData.length = 26 ∧ i < 28 ∧
      (frameAData ++ wordBytes (checksumOf frameAData))[i]? ≠ some 0x55#8 ∧
      s.rx = frameWith 28#16 ((frameAData ++ wordBytes (checksumOf frameAData)).set i 0x55#8) ++ rest ∧ ServedFor s 34 := by
  refine ⟨ready .sM0 (frameWith 28#16 ((frameAData ++ wordBytes (checksumOf frameAData)).set i 0x55#8) ++ []) 34, [],
    rfl, rfl, by omega, ?_, rfl, served_replicate rfl⟩
  rcases h with rfl | rfl <;> decide
/-- The second clause, as in V-B7: bytes 1 and 3 changed to 05 and 06. -/
theorem witness_SingleByteChangesAreDetected_cancelling :
    ∃ (s : State) (rest : List Byte), s.st = .sM0 ∧ frameAData.length = 26 ∧
      ((frameAData.set 1 0x05#8).set 3 0x06#8).length = 26 ∧
      sumBytes ((frameAData.set 1 0x05#8).set 3 0x06#8) = sumBytes frameAData ∧
      s.rx = frameOf ((frameAData.set 1 0x05#8).set 3 0x06#8) (checksumOf frameAData) ++ rest ∧ ServedFor s 35 :=
  ⟨ready .sM0 (frameOf ((frameAData.set 1 0x05#8).set 3 0x06#8) (checksumOf frameAData) ++ []) 35, _, rfl, rfl, rfl,
    by decide, rfl, served_replicate rfl⟩
theorem witness_EvenGarbageThenAValidFrameIsRecovered :
    ∃ (s : State) (rest : List Byte), s.st = .sM0 ∧ (0x42#8, 0x4D#8) ∉ [((0x11#8 : Byte), (0x22#8 : Byte))] ∧
      frameAData.length = 26 ∧
      s.rx = pairBytes [(0x11#8, 0x22#8)] ++ (frameOf frameAData (checksumOf frameAData) ++ rest) ∧ ServedFor s 37 ∧
      ∀ j, j < 2 → (s.inputsAt j).flushDraw = 0 := by
  refine ⟨ready .sM0 (pairBytes [(0x11#8, 0x22#8)] ++ (frameOf frameAData (checksumOf frameAData) ++ [])) 37, [],
    rfl, by decide, rfl, rfl, served_replicate rfl, fun j hj => ?_⟩
  rw [inputsAt_replicate (n := 37) (x := served) rfl (by omega)]; rfl

/-! Invariants and independence -/

/-- A frame of 26 zero bytes with the checksum field `c`, at the comparison. -/
def stZeroFrame (c : Word) : State :=
  { inVsum 0#16 0x00AB#16 with fld := (Vector.replicate 14 0#16).set 13 c }

/-- The same frame accepted. -/
def stZeroRecord : State := { stZeroFrame 0x00AB#16 with st := .sEmit }

theorem witness_EveryCycleKeepsTheInvariant : Inv stM0 ∧ ∃ t, step stM0 = .next t :=
  ⟨⟨by decide, by decide, by decide, by decide, by decide, by decide, by decide⟩, _, rfl⟩
/-- The invariant where it says most: a body in progress. -/
theorem witness_EveryCycleKeepsTheInvariant_body : Inv (inBody 0#16 0x00AB#16 0x12#8) :=
  ⟨by decide, by decide, by decide, by decide, by decide, by decide, by decide⟩
theorem witness_LargeChecksumFieldsAreNeverAccepted :
    Inv (stZeroFrame 0x1A92#16) ∧ (stZeroFrame 0x1A92#16).st = .sVsum ∧ (stZeroFrame 0x1A92#16).inputs.rst = false ∧
    0x1A91 < (stZeroFrame 0x1A92#16).fld[13].toNat :=
  ⟨⟨by decide, by decide, by decide, by decide, by decide, by decide, by decide⟩, by decide, by decide, by decide⟩
theorem witness_TransferredRecordsPassedTheChecksum :
    Inv stZeroRecord ∧ ∃ t, step stZeroRecord = .next t ∧ t.observed ≠ stZeroRecord.observed ∧
      stZeroRecord.operation = .emitDone :=
  ⟨⟨by decide, by decide, by decide, by decide, by decide, by decide, by decide⟩, _, rfl, List.cons_ne_nil _ _,
    by decide⟩
/-- In `S_M0` every data register may differ. -/
theorem witness_DeadRegistersMakeNoDifference :
    SameLive stM0 { stM0 with m0ok := true, len := 7#16, cnt := 8#16, csum := 9#16, fld := Vector.replicate 14 1#16 } ∧
    ∃ t, step stM0 = .next t :=
  ⟨⟨rfl, rfl, rfl, rfl, rfl, rfl, rfl, by decide, by decide, by decide, by decide, fun h => absurd h (by decide),
    fun h => absurd h (by decide), by decide, fun h => absurd h (by decide)⟩, _, rfl⟩
/-- In `S_EMIT` words 12 and 13 may differ. -/
theorem witness_DeadRegistersMakeNoDifference_emit :
    SameLive stEmit { stEmit with fld := (stEmit.fld.set 12 0xFFFF#16).set 13 0xFFFF#16 } :=
  ⟨rfl, rfl, rfl, rfl, rfl, rfl, rfl, by decide, by decide, by decide, by decide, fun h => absurd h (by decide),
    fun h => absurd h (by decide), by decide, fun _ => ⟨by decide, rfl⟩⟩
theorem witness_EarlierFramesMakeNoDifference : ∃ t, stM0.st = .sM0 ∧ runCycles 1 stM0 = .next t := ⟨_, rfl, rfl⟩
theorem witness_UnpackerIsBigEndian : (frameAData ++ wordBytes 0x01F3#16).length = 28 := by decide

/-! Quiescence and resynchronisation by a flush -/

/-- The input is exhausted inside a pair, with the link up and with the link down. -/
def stExhausted : State := ready .sM1 []
/-- The places (a) and (c) of R139; with the link down or in reset the same states are not quiescent. -/
theorem test_quiescent_by_operation :
    Quiescent stExhausted ∧ Quiescent stFaulted ∧ ¬Quiescent { stExhausted with env := [linkDown] } ∧
    ¬Quiescent { stFaulted with env := [inReset] } ∧ ¬Quiescent stEmit := by
  refine ⟨.inl (by decide), .inr (.inr (by decide)), ?_, ?_, ?_⟩ <;>
  · rintro (⟨h, -⟩ | ⟨h, -⟩ | h) <;> exact absurd h (by decide)
theorem witness_QuiescentRunsByStateAndInputs :
    ((ready .sM1 [] 3).st.consuming = true ∧ (ready .sM1 [] 3).rx = [] ∧
      ∀ j, j < 2 + 1 → Up ((ready .sM1 [] 3).inputsAt j)) ∧
    ((ready .sFault [] 3).st = .sFault ∧ NoResetFor (ready .sFault [] 3) (2 + 1)) :=
  ⟨⟨by decide, rfl, fun j hj => by rw [inputsAt_replicate (n := 3) (x := served) rfl hj]; exact ⟨rfl, rfl⟩⟩,
    rfl, fun j hj => by rw [inputsAt_replicate (n := 3) (x := served) rfl hj]; rfl⟩
/-- Under `ready never` a presented record is quiescent, under `ready always` it is not. -/
theorem test_quiescent_script : ({ Stimulus.empty with ready := false } : Stimulus).quiescent stEmitHeld = true ∧
    Stimulus.empty.quiescent stEmitHeld = false ∧ Stimulus.empty.quiescent stExhausted = true ∧
    Stimulus.empty.quiescent stM0 = false ∧ Stimulus.empty.quiescent stFaulted = true := by decide
theorem witness_QuiescentPlacesAreWaitsOrTheFault :
    (stExhausted.operation = .rxWait ∧ stExhausted.rx = [] ∧ Up served ∧ served.present = true) ∧
    (stEmitHeld.operation = .emitHold ∧ served.rst = false ∧ served.outReady = true) ∧
    (stFaulted.operation = .faultHold ∧ linkDown.rst = false) :=
  ⟨⟨by decide, rfl, ⟨rfl, rfl⟩, rfl⟩, ⟨by decide, rfl, rfl⟩, by decide, rfl⟩
/-- A flush that removes a garbage of one byte, as in program P2 of 95_test_vectors.md. -/
theorem witness_FlushOfTheRestOfTheGarbageRecoversTheFrame :
    ∃ (s : State) (rest : List Byte), s.st = .sM1 ∧ ¬(s.m0ok = true ∧ 0x22#8 = 0x4D#8) ∧ frameAData.length = 26 ∧
      s.rx = 0x22#8 :: [0x33#8] ++ (frameOf frameAData (checksumOf frameAData) ++ rest) ∧
      s.inputs.flushDraw = [0x33#8].length ∧ ServedFor s 36 := by
  refine ⟨{ ready .sM1 (0x22#8 :: [0x33#8] ++ (frameOf frameAData (checksumOf frameAData) ++ [])) with
    env := List.replicate 36 { served with flushDraw := 1 } }, [], rfl, by decide, rfl, rfl, rfl, fun j hj => ?_⟩
  rw [inputsAt_replicate (n := 36) (x := { served with flushDraw := 1 }) rfl hj]; exact ⟨rfl, rfl, rfl, rfl⟩

end Sys2Proof.Tests
end

section
/-! PROOFS. The scope (00_scope.md R9, R10): which operations pop a byte, that the decode selects one only where a byte
is presented, and so that every cycle completes. -/

namespace Sys2Proof

/-- In a consuming state the priority of 60_exceptions.md R120 is plain: reset, a link failure, no byte, and only then the
state's own operation. -/
theorem selectOp_of_consuming {st : StCode} (hst : st.consuming = true) (rst linkErr rxValid q : Bool) (b : Byte) :
    selectOp rst linkErr rxValid st q b =
      if rst then .reset else if linkErr then .linkFault else if !rxValid then .rxWait
      else selectOp false false true st q b := by
  cases st with
  | sM0 | sM1 | sL0 | sL1 | sBody => rfl
  | sVlen | sVsum | sEmit | sFault => exact absurd hst (by decide)

/-- No operation of a non-consuming state consumes a byte, whatever the inputs (10_state.md R17). -/
theorem selectOp_opClass_of_not_consuming {st : StCode} (hst : st.consuming = false) (rst linkErr rxValid q : Bool)
    (b : Byte) : (selectOp rst linkErr rxValid st q b).opClass ≠ .byteConsuming := by
  cases rst with
  | true => simp [selectOp, Instr.opClass]
  | false =>
    cases st with
    | sM0 | sM1 | sL0 | sL1 | sBody => exact absurd hst (by decide)
    | sVlen | sVsum | sEmit => cases q <;> simp [selectOp, Instr.opClass]
    | sFault => simp [selectOp, Instr.opClass]

/-- When a byte-consuming operation is selected, nothing of higher priority stands before it: no reset, the link up and a
byte presented, in a consuming state. -/
theorem fields_of_selectOp_byteConsuming {rst linkErr rxValid q : Bool} {st : StCode} {b : Byte}
    (h : (selectOp rst linkErr rxValid st q b).opClass = .byteConsuming) :
    st.consuming = true ∧ rst = false ∧ linkErr = false ∧ rxValid = true := by
  cases hst : st.consuming with
  | false => exact absurd h (selectOp_opClass_of_not_consuming hst rst linkErr rxValid q b)
  | true =>
    rw [selectOp_of_consuming hst] at h
    cases rst with
    | true => nomatch h
    | false =>
      cases linkErr with
      | true => nomatch h
      | false =>
        cases rxValid with
        | false => nomatch h
        | true => exact ⟨rfl, rfl, rfl, rfl⟩

end Sys2Proof

namespace Sys2Proof.Machine

/-! ### The operation of a cycle -/

theorem State.operation_eq_selectOp (s : State) :
    s.operation = selectOp s.inputs.rst s.inputs.linkErr s.rxValid s.st s.qualifier s.rxData :=
  decode_mkWord ..

/-- A cycle performs a byte-consuming operation only where R9 allows `RxPop()`. -/
theorem State.rxValid_of_byteConsuming {s : State} (h : s.operation.opClass = .byteConsuming) : s.rxValid = true := by
  rw [s.operation_eq_selectOp] at h
  obtain ⟨-, -, -, hv⟩ := fields_of_selectOp_byteConsuming h
  exact hv

/-! ### What the meanings can answer -/

/-- Every byte-consuming operation is one `RxPop()` followed by an effect that cannot stop. -/
theorem exec_eq_consumeByte {i : Instr} (h : i.opClass = .byteConsuming) :
    ∃ effect : State → State, ∀ s, exec i s = consumeByte s effect := by
  cases i with
  | m0Capture | m1Match | m1Mismatch | lenHi | lenLo | lenLoZero | bodyByte | bodyLast =>
    constructor
    intro s
    unfold exec
    exact rfl
  | reset | linkFault | rxWait | vlenOk | vlenBad | vsumOk | vsumBad | emitDone | emitHold | faultHold =>
    exact absurd h (by decide)

/-- Every other operation completes in every state. -/
theorem exec_completes_of_not_byteConsuming {i : Instr} (h : i.opClass ≠ .byteConsuming) (s : State) :
    ∃ t, exec i s = .next t := by
  cases i with
  | m0Capture | m1Match | m1Mismatch | lenHi | lenLo | lenLoZero | bodyByte | bodyLast => exact absurd rfl h
  | reset | linkFault | rxWait | vlenOk | vlenBad | vsumOk | vsumBad | emitDone | emitHold | faultHold =>
    exact ⟨_, rfl⟩

/-- A byte-consuming operation completes where a byte is presented. -/
theorem exec_completes_of_rxValid {i : Instr} {s : State} (h : i.opClass = .byteConsuming) (hv : s.rxValid = true) :
    ∃ t, exec i s = .next t := by
  obtain ⟨effect, he⟩ := exec_eq_consumeByte h
  exact ⟨_, (he s).trans (consumeByte_of_rxValid effect hv)⟩

/-- A byte-consuming operation stops by name where no byte is presented (log 10). -/
theorem exec_stops_of_not_rxValid {i : Instr} {s : State} (h : i.opClass = .byteConsuming) (hv : s.rxValid = false) :
    exec i s = .fault .rxPopWithoutByte := by
  obtain ⟨effect, he⟩ := exec_eq_consumeByte h
  exact (he s).trans (consumeByte_of_not_rxValid effect hv)

/-- The operation a cycle selects completes in that cycle's state. -/
theorem exec_operation_completes (s : State) : ∃ t, exec s.operation s = .next t := by
  by_cases h : s.operation.opClass = .byteConsuming
  · exact exec_completes_of_rxValid h (State.rxValid_of_byteConsuming h)
  · exact exec_completes_of_not_byteConsuming h s

/-! ### The obligations of the scope -/

/-- Settles O33: the decode selects a byte-consuming operation only with a byte presented, and no other can stop. -/
theorem everyCycleAnswersANextState : Obligations.EveryCycleAnswersANextState := by
  intro s
  obtain ⟨u, hu⟩ := exec_operation_completes s
  exact ⟨u.tick, step_of_exec hu⟩

/-- Settles O6: all eight are `RxPop()` with an effect, and the pop is what stops. -/
theorem rxPopWithoutAByteStops : Obligations.RxPopWithoutAByteStops := by
  intro s q b hv
  have stops {i : Instr} (h : i.opClass = .byteConsuming) : exec i s = .fault .rxPopWithoutByte :=
    exec_stops_of_not_rxValid h hv
  exact ⟨stops rfl, stops rfl, stops rfl, stops rfl, stops rfl, stops rfl, stops rfl, stops rfl⟩

/-- Settles O7: the cycle's operation is by definition the decode of its word, and the end of the cycle, which advances
the script and the number, is told by the outcome of `exec`. -/
theorem stepRunsTheDecodedOperation : Obligations.StepRunsTheDecodedOperation := by
  intro s i hi _
  have hstep : step s = endCycle (exec i s) := congrArg (fun j => endCycle (exec j s)) hi
  rw [hstep]
  cases exec i s with
  | next t => rfl
  | fault r => rfl
  | refused r => rfl

end Sys2Proof.Machine
end

section
/-! PROOFS. One cycle, told once (10_state.md, 30_encoding.md R66, R67): what a cycle can perform, with the state and the
register condition it needs and the registers it leaves. -/

namespace Sys2Proof.Machine

/-! ### The tests behind the qualifier, as facts about numbers -/

/-- The 17-bit test for the last body byte cannot wrap (30_encoding.md R64). -/
theorem lastBodyByte_iff (cnt len : Word) : lastBodyByte cnt len = true ↔ cnt.toNat + 1 = len.toNat := by
  have hc := cnt.isLt
  have hl := len.isLt
  have hcnt : cnt.toNat % 2 ^ 17 = cnt.toNat := Nat.mod_eq_of_lt (by omega)
  have hlen : len.toNat % 2 ^ 17 = len.toNat := Nat.mod_eq_of_lt (by omega)
  have hsum : (cnt.setWidth 17 + 1#17).toNat = cnt.toNat + 1 := by
    rw [BitVec.toNat_add, BitVec.toNat_setWidth, hcnt]
    exact Nat.mod_eq_of_lt (show cnt.toNat + 1 < 2 ^ 17 by omega)
  rw [lastBodyByte, beq_iff_eq, ← BitVec.toNat_inj, hsum, BitVec.toNat_setWidth, hlen]

/-- A length is zero when both its bytes are. -/
theorem setLoByte_eq_zero_iff (w : Word) (b : Byte) : setLoByte w b = 0#16 ↔ hiByte w = 0x00#8 ∧ b = 0x00#8 := by
  constructor
  · intro h
    exact ⟨by rw [← hiByte_setLoByte w b, h]; rfl, by rw [← loByte_setLoByte w b, h]; rfl⟩
  · rintro ⟨hh, rfl⟩
    exact word_ext ((hiByte_setLoByte ..).trans hh) (loByte_setLoByte ..)

/-! ### What a cycle performs -/

/-- `Performs s i u`: a cycle that starts in `s` can perform operation `i`, which leaves `u` at the end of the cycle. Each
operation stands with the state code it belongs to and with what the qualifier tells of the registers (R64, R66, R67). -/
inductive Performs (s : State) : Instr → State → Prop
  | reset : Performs s .reset s.resetRegs
  | linkFault (hst : s.st.consuming = true) : Performs s .linkFault (s.raiseFault .link)
  | rxWait (hst : s.st.consuming = true) : Performs s .rxWait s
  | m0Capture (b : Byte) (hst : s.st = .sM0) :
      Performs s (.m0Capture b) { s.rxPop with m0ok := magic0Test b, st := .sM1 }
  | m1Match (hst : s.st = .sM1) : Performs s .m1Match { s.rxPop with st := .sL0 }
  | m1Mismatch (q : Bool) (b : Byte) (hst : s.st = .sM1) :
      Performs s (.m1Mismatch q b) { s.rxPop.rxFlush with st := .sM0 }
  | lenHi (b : Byte) (hst : s.st = .sL0) : Performs s (.lenHi b) { s.rxPop with len := b ++ 0x00#8, st := .sL1 }
  | lenLo (q : Bool) (b : Byte) (hst : s.st = .sL1) (hlen : setLoByte s.len b ≠ 0#16) :
      Performs s (.lenLo q b) { s.rxPop.startBody b with st := .sBody }
  | lenLoZero (hst : s.st = .sL1) (hlen : setLoByte s.len 0x00#8 = 0#16) :
      Performs s .lenLoZero { s.rxPop.startBody 0x00#8 with st := .sVlen }
  | bodyByte (b : Byte) (hst : s.st = .sBody) (hmore : s.cnt.toNat + 1 ≠ s.len.toNat) :
      Performs s (.bodyByte b) (s.rxPop.takeBodyByte b)
  | bodyLast (b : Byte) (hst : s.st = .sBody) (hlast : s.cnt.toNat + 1 = s.len.toNat) :
      Performs s (.bodyLast b) { s.rxPop.takeBodyByte b with st := .sVlen }
  | vlenOk (hst : s.st = .sVlen) (hlen : s.len = 28#16) : Performs s .vlenOk { s with st := .sVsum }
  | vlenBadDiscard (hst : s.st = .sVlen) (hpolicy : s.lenPolicy = .discard) : Performs s .vlenBad { s with st := .sM0 }
  | vlenBadFault (hst : s.st = .sVlen) (hpolicy : s.lenPolicy = .fault) : Performs s .vlenBad (s.raiseFault .length)
  | vsumOk (hst : s.st = .sVsum) (hsum : s.fld[13] = s.csum) :
      Performs s .vsumOk { s with ts := s.inputs.tsIn, st := .sEmit }
  | vsumBad (hst : s.st = .sVsum) : Performs s .vsumBad { s with st := .sM0 }
  | emitDone (hst : s.st = .sEmit) : Performs s .emitDone { s.emit with st := .sM0 }
  | emitHold (hst : s.st = .sEmit) : Performs s .emitHold s
  | faultHold (hst : s.st = .sFault) : Performs s .faultHold s

/-- `Performs` is the model's meaning of the operation. -/
theorem Performs.exec_eq {s u : State} {i : Instr} (h : Performs s i u)
    (hv : i.opClass = .byteConsuming → s.rxValid = true) : exec i s = .next u := by
  cases h with
  | m0Capture | m1Match | m1Mismatch | lenHi | lenLo | lenLoZero | bodyByte | bodyLast =>
    unfold exec
    exact consumeByte_of_rxValid _ (hv rfl)
  | vlenBadDiscard _ hpolicy | vlenBadFault _ hpolicy => simp [exec, execVlenBad, hpolicy]
  | reset | linkFault | rxWait | vlenOk | vsumOk | vsumBad | emitDone | emitHold | faultHold => rfl

/-- The pair test (30_encoding.md R66, rows 5 and 6). -/
theorem selectOp_sM1 (q : Bool) (b : Byte) : selectOp false false true .sM1 q b =
    if q && b == 0x4D#8 then .m1Match else .m1Mismatch q b := rfl

/-- The zero-length test (30_encoding.md R66, rows 8 and 9). -/
theorem selectOp_sL1 (q : Bool) (b : Byte) : selectOp false false true .sL1 q b =
    if q && b == 0x00#8 then .lenLoZero else .lenLo q b := rfl

/-- In `S_L1` the qualifier and the byte tell whether the whole length is zero. -/
theorem zeroLength_test_iff {s : State} (hst : s.st = .sL1) (b : Byte) :
    (s.qualifier && b == 0x00#8) = true ↔ setLoByte s.len b = 0#16 := by
  simp [State.qualifier, hst, setLoByte_eq_zero_iff]

/-- With a byte presented and nothing of higher priority, each consuming state performs its own operation. -/
theorem exists_performs_of_consuming {s : State} (hst : s.st.consuming = true) :
    ∃ u, Performs s (selectOp false false true s.st s.qualifier s.rxData) u := by
  cases hc : s.st with
  | sM0 => exact ⟨_, .m0Capture _ hc⟩
  | sM1 =>
    rw [selectOp_sM1]
    split
    · exact ⟨_, .m1Match hc⟩
    · exact ⟨_, .m1Mismatch _ _ hc⟩
  | sL0 => exact ⟨_, .lenHi _ hc⟩
  | sL1 =>
    rw [selectOp_sL1]
    split
    next hz =>
      have hlen := (zeroLength_test_iff hc s.rxData).mp hz
      obtain ⟨-, hb⟩ := (setLoByte_eq_zero_iff ..).mp hlen
      exact ⟨_, .lenLoZero hc (hb ▸ hlen)⟩
    next hz => exact ⟨_, .lenLo _ _ hc (mt (zeroLength_test_iff hc s.rxData).mpr hz)⟩
  | sBody =>
    have hlast : s.qualifier = true ↔ s.cnt.toNat + 1 = s.len.toNat := by
      simp only [State.qualifier, hc, lastBodyByte_iff]
    cases hl : s.qualifier with
    | true => exact ⟨_, .bodyLast _ hc (hlast.mp hl)⟩
    | false => exact ⟨_, .bodyByte _ hc (mt hlast.mpr (by simp [hl]))⟩
  | sVlen | sVsum | sEmit | sFault => rw [hc] at hst; exact absurd hst (by decide)

/-- Without reset, each non-consuming state performs its own operation, whatever the link and the byte inputs do. -/
theorem exists_performs_of_not_consuming {s : State} (hst : s.st.consuming = false) (linkErr rxValid : Bool)
    (b : Byte) : ∃ u, Performs s (selectOp false linkErr rxValid s.st s.qualifier b) u := by
  cases hc : s.st with
  | sVlen =>
    have hlen : s.qualifier = true ↔ s.len = 28#16 := by simp [State.qualifier, hc]
    cases hq : s.qualifier with
    | true => exact ⟨_, .vlenOk hc (hlen.mp hq)⟩
    | false =>
      cases hp : s.lenPolicy with
      | discard => exact ⟨_, .vlenBadDiscard hc hp⟩
      | fault => exact ⟨_, .vlenBadFault hc hp⟩
  | sVsum =>
    have hsum : s.qualifier = true ↔ s.fld[13] = s.csum := by simp [State.qualifier, hc]
    cases hq : s.qualifier with
    | true => exact ⟨_, .vsumOk hc (hsum.mp hq)⟩
    | false => exact ⟨_, .vsumBad hc⟩
  | sEmit =>
    cases s.qualifier with
    | true => exact ⟨_, .emitDone hc⟩
    | false => exact ⟨_, .emitHold hc⟩
  | sFault => exact ⟨_, .faultHold hc⟩
  | sM0 | sM1 | sL0 | sL1 | sBody => rw [hc] at hst; exact absurd hst (by decide)

/-- The operation of every cycle stands in `Performs`, by the priority of 60_exceptions.md R120. -/
theorem exists_performs_operation (s : State) : ∃ u, Performs s s.operation u := by
  rw [s.operation_eq_selectOp]
  cases s.inputs.rst with
  | true => exact ⟨_, .reset⟩
  | false =>
    cases hst : s.st.consuming with
    | false => exact exists_performs_of_not_consuming hst _ _ _
    | true =>
      rw [selectOp_of_consuming hst]
      cases s.inputs.linkErr with
      | true => exact ⟨_, .linkFault hst⟩
      | false =>
        cases s.rxValid with
        | false => exact ⟨_, .rxWait hst⟩
        | true => exact exists_performs_of_consuming hst

/-- The step answers what the cycle's operation performs, with the cycle ended. -/
theorem Performs.step_eq {s u : State} (h : Performs s s.operation u) : step s = .next u.tick :=
  step_of_exec (h.exec_eq State.rxValid_of_byteConsuming)

/-- All a step can answer: what the cycle's operation performs, with the cycle ended. -/
theorem performs_of_step {s t : State} (h : step s = .next t) : ∃ u, Performs s s.operation u ∧ t = u.tick := by
  obtain ⟨u, hu⟩ := exists_performs_operation s
  have ht : Host.Outcome.next t = .next u.tick := h.symm.trans hu.step_eq
  injection ht with ht
  exact ⟨u, hu, ht⟩

/-- No operation writes LEN_POLICY or touches the script (00_scope.md R27; log 2). -/
theorem Performs.parameters {s u : State} {i : Instr} (h : Performs s i u) :
    u.lenPolicy = s.lenPolicy ∧ u.env = s.env ∧ u.cycle = s.cycle := by
  cases h <;> exact ⟨rfl, rfl, rfl⟩

end Sys2Proof.Machine
end

section
/-! PROOFS. The invariant of FSYNC's registers (10_state.md R22, R23, R25, R97, R98, R101, R105). -/

namespace Sys2Proof.Machine

/-- The checksum clause of `Inv`: the running sum is the integer formula over the bytes stored so far (R94, R98). -/
def SumOk (s : State) : Prop := s.csum.toNat = 0x00AB + byteSum s.fld (min s.cnt.toNat 26)

/-- The clauses of `Inv` about the fault code (R25, R112). -/
structure FaultCodeOk (s : State) : Prop where
  code_iff : s.faultCode = .none ↔ s.st ≠ .sFault
  length_needs_policy : s.faultCode = .length → s.lenPolicy = .fault

/-- The clauses of `Inv` about the data registers, sorted by the state they speak of. -/
def DataOk (c : StCode) (s : State) : Prop :=
  match c with
  | .sM0 | .sM1 | .sL0 | .sL1 | .sFault => True
  | .sBody => s.cnt.toNat < s.len.toNat ∧ SumOk s
  | .sVlen => s.cnt = s.len ∧ SumOk s
  | .sVsum => s.cnt = s.len ∧ s.len = 28#16 ∧ SumOk s
  | .sEmit => s.cnt = s.len ∧ s.len = 28#16 ∧ SumOk s ∧ s.fld[13] = s.csum

theorem inv_iff (s : State) : Inv s ↔ FaultCodeOk s ∧ DataOk s.st s := by
  constructor
  · rintro ⟨hcode, hpolicy, hopen, hdone, hlen, hsum, hemit⟩
    refine ⟨⟨hcode, hpolicy⟩, ?_⟩
    cases hst : s.st with
    | sM0 | sM1 | sL0 | sL1 | sFault => trivial
    | sBody => exact ⟨hopen hst, hsum (.inl hst)⟩
    | sVlen => exact ⟨hdone (.inl hst), hsum (.inr (.inl hst))⟩
    | sVsum => exact ⟨hdone (.inr (.inl hst)), hlen (.inl hst), hsum (.inr (.inr (.inl hst)))⟩
    | sEmit => exact ⟨hdone (.inr (.inr hst)), hlen (.inr hst), hsum (.inr (.inr (.inr hst))), hemit hst⟩
  · rintro ⟨⟨hcode, hpolicy⟩, hdata⟩
    have data {c : StCode} (h : s.st = c) : DataOk c s := h ▸ hdata
    exact
      { code_iff := hcode
        length_needs_policy := hpolicy
        body_open := fun h => (data h).left
        body_done := by rintro (h | h | h) <;> exact (data h).left
        length_ok := by rintro (h | h) <;> exact (data h).right.left
        sum_ok := by
          rintro (h | h | h | h)
          exacts [(data h).right, (data h).right, (data h).right.right, (data h).right.right.left]
        emit_ok := fun h => (data h).right.right.right }

/-- The end of a cycle touches no register. -/
theorem Inv.tick {s : State} (h : Inv s) : Inv s.tick := by
  obtain ⟨hcode, hpolicy, hopen, hdone, hlen, hsum, hemit⟩ := h
  exact ⟨hcode, hpolicy, hopen, hdone, hlen, hsum, hemit⟩

/-! ### The running sum -/

/-- A body starts with the sum of no bytes (41_length.md R88, R89). -/
theorem sumOk_startBody (s : State) (b : Byte) (c : StCode) : SumOk { s.startBody b with st := c } := rfl

theorem toNat_cnt_takeBodyByte {s : State} (b : Byte) (h : s.cnt.toNat < s.len.toNat) :
    (s.takeBodyByte b).cnt.toNat = s.cnt.toNat + 1 := by
  have hl := s.len.isLt
  rw [State.takeBodyByte_cnt, BitVec.toNat_add]
  exact Nat.mod_eq_of_lt (show s.cnt.toNat + 1 < 2 ^ 16 by omega)

/-- A body byte keeps the sum: below 26 it is stored where the sum looks next, and 26 bytes cannot make the addition wrap;
from 26 on it is stored behind the summed bytes and not added (42_body.md R94, R95, R98). -/
theorem sumOk_takeBodyByte {s : State} (b : Byte) (hopen : s.cnt.toNat < s.len.toNat) (h : SumOk s) :
    SumOk (s.takeBodyByte b) := by
  have hb := b.isLt
  have hbound := byteSum_le s.fld (min s.cnt.toNat 26)
  unfold SumOk at h ⊢
  have hsum := toNat_sumBodyByte s.csum s.cnt.toNat b (by omega)
  rw [toNat_cnt_takeBodyByte b hopen, State.takeBodyByte_csum, State.takeBodyByte_fld, hsum]
  by_cases hc : s.cnt.toNat < 26
  · rw [if_pos hc, show min (s.cnt.toNat + 1) 26 = s.cnt.toNat + 1 by omega, byteSum,
      byteSum_store_of_le _ _ (Nat.le_refl _), bodyByteAt_store_self _ _ (by omega), h,
      show min s.cnt.toNat 26 = s.cnt.toNat by omega, Nat.add_assoc]
  · rw [if_neg hc, show min (s.cnt.toNat + 1) 26 = 26 by omega, byteSum_store_of_le _ _ (by omega), h,
      show min s.cnt.toNat 26 = 26 by omega]

/-! ### Every operation keeps both parts of the invariant -/

/-- An operation outside `S_FAULT` that neither enters it nor writes the fault code keeps the fault clauses. -/
theorem FaultCodeOk.of_same {s u : State} (h : FaultCodeOk s) (hs : s.st ≠ .sFault) (hu : u.st ≠ .sFault)
    (hcode : u.faultCode = s.faultCode) (hpolicy : u.lenPolicy = s.lenPolicy) : FaultCodeOk u :=
  ⟨iff_of_true (hcode.trans (h.code_iff.mpr hs)) hu, fun hl => hpolicy.trans (h.length_needs_policy (hcode ▸ hl))⟩

theorem Performs.faultCodeOk {s u : State} {i : Instr} (hp : Performs s i u) (h : FaultCodeOk s) : FaultCodeOk u := by
  cases hp with
  | reset => exact ⟨iff_of_true rfl nofun, nofun⟩
  | linkFault => exact ⟨iff_of_false nofun (· rfl), nofun⟩
  | vlenBadFault _ hpolicy => exact ⟨iff_of_false nofun (· rfl), fun _ => hpolicy⟩
  | rxWait | emitHold | faultHold => exact h
  | m0Capture _ hst | m1Match hst | m1Mismatch _ _ hst | lenHi _ hst | lenLo _ _ hst | lenLoZero hst
  | bodyLast _ hst | vlenOk hst | vlenBadDiscard hst | vsumOk hst | vsumBad hst | emitDone hst =>
    exact h.of_same (by simp [hst]) nofun rfl rfl
  | bodyByte _ hst => exact h.of_same (by simp [hst]) (by simp [hst]) rfl rfl

theorem Performs.dataOk {s u : State} {i : Instr} (hp : Performs s i u) (h : DataOk s.st s) : DataOk u.st u := by
  cases hp with
  | rxWait | emitHold | faultHold => exact h
  | reset | linkFault | m0Capture | m1Match | m1Mismatch | lenHi | vlenBadDiscard | vlenBadFault | vsumBad | emitDone =>
    trivial
  | lenLo q b hst hlen =>
    have hpos : 0 < (setLoByte s.len b).toNat :=
      Nat.pos_of_ne_zero fun h0 => hlen (BitVec.eq_of_toNat_eq h0)
    exact ⟨hpos, sumOk_startBody ..⟩
  | lenLoZero hst hlen => exact ⟨hlen.symm, sumOk_startBody ..⟩
  | bodyByte b hst hmore =>
    rw [hst] at h
    obtain ⟨hopen, hsum⟩ := h
    rw [show (s.rxPop.takeBodyByte b).st = .sBody from hst]
    have hcnt := toNat_cnt_takeBodyByte (s := s.rxPop) b hopen
    exact ⟨by rw [hcnt]; exact Nat.lt_of_le_of_ne hopen hmore, sumOk_takeBodyByte b hopen hsum⟩
  | bodyLast b hst hlast =>
    rw [hst] at h
    obtain ⟨hopen, hsum⟩ := h
    have hcnt := toNat_cnt_takeBodyByte (s := s.rxPop) b hopen
    exact ⟨BitVec.eq_of_toNat_eq (hcnt.trans hlast), sumOk_takeBodyByte (s := s.rxPop) b hopen hsum⟩
  | vlenOk hst hlen =>
    rw [hst] at h
    obtain ⟨hdone, hsum⟩ := h
    exact ⟨hdone, hlen, hsum⟩
  | vsumOk hst hfld =>
    rw [hst] at h
    obtain ⟨hdone, hlen, hsum⟩ := h
    exact ⟨hdone, hlen, hsum, hfld⟩

theorem Performs.inv {s u : State} {i : Instr} (hp : Performs s i u) (h : Inv s) : Inv u := by
  obtain ⟨hcode, hdata⟩ := (inv_iff s).mp h
  exact (inv_iff u).mpr ⟨hp.faultCodeOk hcode, hp.dataOk hdata⟩

end Sys2Proof.Machine
end

section
/-! PROOFS. Registers that no operation reads before writing them (10_state.md R32, R33): what agrees in `SameLive` decides
the operation, the outputs, and what agrees after the cycle. -/

namespace Sys2Proof.Machine

/-- The registers without a stated value after reset (10_state.md R31). -/
structure DataRegs where
  m0ok : Bool
  len : Word
  cnt : Word
  csum : Word
  fld : Vector Word 14
  ts : Timestamp

/-- `s` with other contents of the data registers. -/
def State.withData (s : State) (d : DataRegs) : State :=
  { s with m0ok := d.m0ok, len := d.len, cnt := d.cnt, csum := d.csum, fld := d.fld, ts := d.ts }

/-- The part of `SameLive` that holds in every state: all but the data registers agree. -/
structure SameControl (s t : State) : Prop where
  st : s.st = t.st
  faultCode : s.faultCode = t.faultCode
  lenPolicy : s.lenPolicy = t.lenPolicy
  rx : s.rx = t.rx
  env : s.env = t.env
  cycle : s.cycle = t.cycle
  observed : s.observed = t.observed

/-- The part of `SameLive` about the data registers, sorted by the state in which they are live (10_state.md R32). -/
def AgreeOnLive (c : StCode) (s t : State) : Prop :=
  match c with
  | .sM0 | .sL0 | .sFault => True
  | .sM1 => s.m0ok = t.m0ok
  | .sL1 => s.len = t.len
  | .sBody => s.len = t.len ∧ s.cnt = t.cnt ∧ s.csum = t.csum ∧ SameBytes s.fld t.fld (min s.cnt.toNat 28)
  | .sVlen => s.len = t.len ∧ s.csum = t.csum ∧ SameBytes s.fld t.fld (min s.len.toNat 28)
  | .sVsum => s.csum = t.csum ∧ s.fld = t.fld
  | .sEmit => outWords s.fld = outWords t.fld ∧ s.ts = t.ts

theorem sameLive_iff (s t : State) : SameLive s t ↔ SameControl s t ∧ AgreeOnLive s.st s t := by
  constructor
  · rintro ⟨hst, hcode, hpolicy, hrx, henv, hcycle, hobs, hpair, hlen, hcnt, hsum, hbytes, hall, hwords, hrec⟩
    refine ⟨⟨hst, hcode, hpolicy, hrx, henv, hcycle, hobs⟩, ?_⟩
    cases hc : s.st <;> simp_all [AgreeOnLive]
  · rintro ⟨hcontrol, hlive⟩
    have agree {c : StCode} (h : s.st = c) : AgreeOnLive c s t := h ▸ hlive
    exact
      { hcontrol with
        pair := agree
        length := by
          rintro (h | h | h)
          exacts [agree h, (agree h).left, (agree h).left]
        count := fun h => (agree h).right.left
        sum := by
          rintro (h | h | h)
          exacts [(agree h).right.right.left, (agree h).right.left, (agree h).left]
        bodyBytes := fun h => (agree h).right.right.right
        allBytes := fun h => (agree h).right.right
        words := fun h => (agree h).right
        record := agree }

/-- A state with the same control is the same state with other data. -/
theorem SameControl.eq_withData {s t : State} (h : SameControl s t) :
    t = s.withData ⟨t.m0ok, t.len, t.cnt, t.csum, t.fld, t.ts⟩ := by
  obtain ⟨hst, hcode, hpolicy, hrx, henv, hcycle, hobs⟩ := h
  simp [State.withData, hst, hcode, hpolicy, hrx, henv, hcycle, hobs]

theorem SameLive.exists_data {s t : State} (h : SameLive s t) :
    ∃ d, t = s.withData d ∧ AgreeOnLive s.st s (s.withData d) := by
  obtain ⟨hcontrol, hlive⟩ := (sameLive_iff s t).mp h
  exact ⟨_, hcontrol.eq_withData, hcontrol.eq_withData ▸ hlive⟩

/-- In `S_M0` no data register is live. -/
theorem sameLive_withData_of_sM0 {s : State} (hst : s.st = .sM0) (d : DataRegs) : SameLive s (s.withData d) :=
  (sameLive_iff ..).mpr ⟨⟨rfl, rfl, rfl, rfl, rfl, rfl, rfl⟩, by rw [hst]; trivial⟩

/-! ### The same operation and the same outputs -/

/-- The qualifier reads live registers alone. -/
theorem qualifier_withData {s : State} {d : DataRegs} (h : AgreeOnLive s.st s (s.withData d)) :
    s.qualifier = (s.withData d).qualifier := by
  have hst : (s.withData d).st = s.st := rfl
  unfold State.qualifier
  rw [hst]
  cases hc : s.st with
  | sM0 | sL0 | sEmit | sFault => rfl
  | sM1 =>
    rw [hc] at h
    exact h
  | sL1 =>
    rw [hc] at h
    exact congrArg (hiByte · == 0x00#8) h
  | sBody =>
    rw [hc] at h
    obtain ⟨hlen, hcnt, -⟩ := h
    simp only [hlen, hcnt]
  | sVlen =>
    rw [hc] at h
    obtain ⟨hlen, -⟩ := h
    simp only [hlen]
  | sVsum =>
    rw [hc] at h
    obtain ⟨hsum, hfld⟩ := h
    simp only [hsum, hfld]

theorem operation_withData {s : State} {d : DataRegs} (h : AgreeOnLive s.st s (s.withData d)) :
    s.operation = (s.withData d).operation := by
  rw [s.operation_eq_selectOp, (s.withData d).operation_eq_selectOp, qualifier_withData h]
  rfl

theorem SameLive.operation {s t : State} (h : SameLive s t) : s.operation = t.operation := by
  obtain ⟨d, rfl, hlive⟩ := h.exists_data
  exact operation_withData hlive

/-- The outputs read the operation, the control registers, and the record where it is presented (10_state.md R29, R43). -/
theorem SameLive.outputs {s t : State} (h : SameLive s t) : s.outputs = t.outputs := by
  by_cases hst : s.st = .sEmit
  · obtain ⟨hfields, hts⟩ := h.record hst
    simp only [State.outputs, ← h.operation, ← h.st, ← h.faultCode, hfields, hts]
  · simp only [State.outputs, ← h.operation, ← h.st, ← h.faultCode, if_neg hst]

/-! ### The same operation keeps the agreement -/

/-- A byte stored under the same number in two field files that agree below it: they agree up to and with it. -/
theorem SameBytes.store {f g : Vector Word 14} {i n : Nat} (b : Byte) (h : SameBytes f g (min i 28)) (hn : n ≤ i + 1) :
    SameBytes (storeBodyByte f i b) (storeBodyByte g i b) (min n 28) := by
  intro j hj
  by_cases hji : j = i
  · subst hji
    rw [bodyByteAt_store_self f b (by omega), bodyByteAt_store_self g b (by omega)]
  · rw [bodyByteAt_store_of_ne f b hji, bodyByteAt_store_of_ne g b hji]
    exact h j (by omega)

/-- Two bodies that agree so far agree after one more byte, on any number of bytes up to and with it. -/
theorem agree_takeBodyByte {s t : State} {n : Nat} (b : Byte) (h : AgreeOnLive .sBody s t) (hn : n ≤ s.cnt.toNat + 1) :
    (s.takeBodyByte b).len = (t.takeBodyByte b).len ∧ (s.takeBodyByte b).cnt = (t.takeBodyByte b).cnt ∧
      (s.takeBodyByte b).csum = (t.takeBodyByte b).csum ∧
      SameBytes (s.takeBodyByte b).fld (t.takeBodyByte b).fld (min n 28) := by
  obtain ⟨hlen, hcnt, hsum, hbytes⟩ := h
  simp only [State.takeBodyByte_len, State.takeBodyByte_cnt, State.takeBodyByte_csum, State.takeBodyByte_fld,
    ← hlen, ← hcnt, ← hsum, true_and]
  exact hbytes.store b hn

theorem Performs.sameControl {s u u' : State} {d : DataRegs} {i : Instr}
    (hlive : AgreeOnLive s.st s (s.withData d)) (hs : Performs s i u) (ht : Performs (s.withData d) i u') :
    SameControl u u' := by
  cases hs with
  | reset | linkFault | rxWait | m0Capture | m1Match | m1Mismatch | lenHi | lenLo | lenLoZero | bodyByte | bodyLast
  | vlenOk | vsumOk | vsumBad | emitHold | faultHold =>
    cases ht
    exact ⟨rfl, rfl, rfl, rfl, rfl, rfl, rfl⟩
  | vlenBadDiscard _ hs =>
    cases ht with
    | vlenBadDiscard => exact ⟨rfl, rfl, rfl, rfl, rfl, rfl, rfl⟩
    | vlenBadFault _ ht => nomatch hs.symm.trans ht
  | vlenBadFault _ hs =>
    cases ht with
    | vlenBadDiscard _ ht => nomatch hs.symm.trans ht
    | vlenBadFault => exact ⟨rfl, rfl, rfl, rfl, rfl, rfl, rfl⟩
  | emitDone hst =>
    cases ht
    rw [hst] at hlive
    obtain ⟨hfields, hts⟩ := hlive
    have hrecord : s.record = (s.withData d).record := by simp only [State.record, hfields, hts]
    exact ⟨rfl, rfl, rfl, rfl, rfl, rfl, congrArg (fun r => s.observed ++ [.record r]) hrecord⟩

theorem Performs.agreeOnLive {s u u' : State} {d : DataRegs} {i : Instr}
    (hlive : AgreeOnLive s.st s (s.withData d)) (hs : Performs s i u) (ht : Performs (s.withData d) i u') :
    AgreeOnLive u.st u u' := by
  cases hs with
  | reset | linkFault | m1Match | m1Mismatch | vlenBadDiscard | vlenBadFault | vsumBad | emitDone => trivial
  | rxWait | emitHold | faultHold =>
    cases ht
    exact hlive
  | m0Capture | lenHi =>
    cases ht
    exact rfl
  | lenLo q b hst =>
    cases ht
    rw [hst] at hlive
    exact ⟨congrArg (setLoByte · b) hlive, rfl, rfl, fun j hj => absurd hj (Nat.not_lt_zero j)⟩
  | lenLoZero hst hlen =>
    cases ht
    rw [hst] at hlive
    refine ⟨congrArg (setLoByte · 0x00#8) hlive, rfl, fun j hj => ?_⟩
    have hj : j < min (setLoByte s.len 0x00#8).toNat 28 := hj
    rw [hlen] at hj
    exact absurd hj (Nat.not_lt_zero j)
  | bodyByte b hst =>
    cases ht
    rw [hst] at hlive
    rw [show (s.rxPop.takeBodyByte b).st = .sBody from hst]
    have hle : (s.cnt + 1#16).toNat ≤ s.cnt.toNat + 1 := by
      rw [BitVec.toNat_add]
      exact Nat.mod_le _ _
    exact agree_takeBodyByte (s := s.rxPop) (t := (s.withData d).rxPop) b hlive hle
  | bodyLast b hst hlast =>
    cases ht
    rw [hst] at hlive
    obtain ⟨hlen, -, hsum, hbytes⟩ :=
      agree_takeBodyByte (s := s.rxPop) (t := (s.withData d).rxPop) b hlive (Nat.le_of_eq hlast.symm)
    exact ⟨hlen, hsum, hbytes⟩
  | vlenOk hst hlen =>
    cases ht
    rw [hst] at hlive
    obtain ⟨-, hsum, hbytes⟩ := hlive
    rw [hlen] at hbytes
    exact ⟨hsum, fld_ext hbytes⟩
  | vsumOk hst =>
    cases ht
    rw [hst] at hlive
    obtain ⟨-, hfld⟩ := hlive
    exact ⟨congrArg outWords hfld, rfl⟩

/-- The end of a cycle keeps the agreement. -/
theorem SameLive.tick {s t : State} (h : SameLive s t) : SameLive s.tick t.tick := by
  obtain ⟨hst, hcode, hpolicy, hrx, henv, hcycle, hobs, hpair, hlen, hcnt, hsum, hbytes, hall, hwords, hrec⟩ := h
  exact ⟨hst, hcode, hpolicy, hrx, congrArg List.tail henv, congrArg (· + 1) hcycle, hobs, hpair, hlen, hcnt, hsum,
    hbytes, hall, hwords, hrec⟩

/-- One cycle keeps the agreement. -/
theorem SameLive.step {s t s' : State} (h : SameLive s t) (hs : step s = .next s') :
    ∃ t', Machine.step t = .next t' ∧ SameLive s' t' := by
  obtain ⟨u, hu, rfl⟩ := performs_of_step hs
  obtain ⟨d, rfl, hlive⟩ := h.exists_data
  obtain ⟨u', hu'⟩ := exists_performs_operation (s.withData d)
  have ht := hu'.step_eq
  rw [← operation_withData hlive] at hu'
  have hafter : SameLive u u' := (sameLive_iff u u').mpr ⟨hu.sameControl hlive hu', hu.agreeOnLive hlive hu'⟩
  exact ⟨u'.tick, ht, hafter.tick⟩

theorem runCycles_succ_of_step {n : Nat} {s t : State} (h : step s = .next t) :
    runCycles (n + 1) s = runCycles n t := by simp [runCycles, h]

/-- Any number of cycles keeps the agreement. -/
theorem SameLive.runCycles {n : Nat} {s t s' : State} (h : SameLive s t) (hs : runCycles n s = .next s') :
    ∃ t', Machine.runCycles n t = .next t' ∧ SameLive s' t' := by
  induction n generalizing s t with
  | zero =>
    injection hs with hs
    exact ⟨t, rfl, hs ▸ h⟩
  | succ n ih =>
    obtain ⟨s₁, hs₁⟩ := everyCycleAnswersANextState s
    obtain ⟨t₁, ht₁, h₁⟩ := h.step hs₁
    rw [runCycles_succ_of_step hs₁] at hs
    rw [runCycles_succ_of_step ht₁]
    exact ih h₁ hs

end Sys2Proof.Machine
end

section
/-! PROOFS. The obligations about FSYNC's state (10_state.md). -/

namespace Sys2Proof

/-! ### Reserved state codes -/

theorem reservedCode_iff (c : BitVec 4) :
    reservedCode c = true ↔ c ∈ [0x5#4, 0x6#4, 0x7#4, 0xB#4, 0xC#4, 0xD#4, 0xE#4] := by
  simp [reservedCode, or_assoc]

/-- The first row of the decode table takes every word with `W[15]` set (30_encoding.md R66). -/
theorem decode_of_wordRst {w : Word} (h : wordRst w = true) : decode w = .reset := by
  have hhit : w &&& 0x8000#16 = 0x8000#16 := by
    have e := BitVec.and_twoPow w 15
    rwa [show w.getLsbD 15 = true from h] at e
  have hrow : firstRow w = some ⟨"RESET", 0x8000#16, 0x8000#16, fun _ => .reset⟩ :=
    List.find?_cons_of_pos (beq_iff_eq.mpr hhit)
  simp [decode, h, hrow]

theorem decode_of_reserved {w : Word} (hc : reservedCode (wordSt w) = true) (h : wordRst w = false) :
    decode w = .faultHold := by simp [decode, hc, h]

theorem decode_of_no_row {w : Word} (h : ∀ r ∈ decodeTable, w &&& r.mask ≠ r.pattern) : decode w = .faultHold := by
  have hnone : firstRow w = none := List.find?_eq_none.mpr fun r hr hhit => h r hr (beq_iff_eq.mp hhit)
  simp [decode, hnone]

/-! ### `link_err` outside the consuming states -/

/-- In a non-consuming state `link_err` stands in no condition of R120. -/
theorem selectOp_linkErr_of_not_consuming {st : StCode} (hst : st.consuming = false) (rst l l' rxValid q : Bool)
    (b : Byte) : selectOp rst l rxValid st q b = selectOp rst l' rxValid st q b := by
  cases st with
  | sVlen | sVsum | sEmit | sFault => rfl
  | sM0 | sM1 | sL0 | sL1 | sBody => exact absurd hst (by decide)

end Sys2Proof

namespace Sys2Proof.Machine

/-- Of a cycle's own inputs, an operation that consumes no byte reads at most `ts_in`. -/
theorem endCycle_exec_of_not_byteConsuming {i : Instr} (hi : i.opClass ≠ .byteConsuming) (s : State) {x y : CycleInput}
    (hts : x.tsIn = y.tsIn) (xs : List CycleInput) :
    endCycle (exec i { s with env := x :: xs }) = endCycle (exec i { s with env := y :: xs }) := by
  cases i with
  | m0Capture | m1Match | m1Mismatch | lenHi | lenLo | lenLoZero | bodyByte | bodyLast => exact absurd rfl hi
  | reset | linkFault | rxWait | vlenOk | vsumBad | emitDone | emitHold | faultHold => rfl
  | vlenBad => cases hp : s.lenPolicy <;> rfl
  | vsumOk => exact congrArg (fun ts => endCycle (.next { s with env := x :: xs, ts := ts, st := .sEmit })) hts

/-- The operation of a non-consuming state is the same under both values of `link_err` (R120). -/
theorem operation_linkErr_of_not_consuming {s : State} (hst : s.st.consuming = false) (x : CycleInput) (l l' : Bool)
    (xs : List CycleInput) :
    State.operation { s with env := { x with linkErr := l } :: xs } =
      State.operation { s with env := { x with linkErr := l' } :: xs } := by
  rw [State.operation_eq_selectOp, State.operation_eq_selectOp]
  exact selectOp_linkErr_of_not_consuming hst _ l l' _ _ _

/-- A non-consuming state consumes no byte (10_state.md R17). -/
theorem opClass_of_not_consuming {s : State} (hst : s.st.consuming = false) : s.operation.opClass ≠ .byteConsuming := by
  rw [s.operation_eq_selectOp]
  exact selectOp_opClass_of_not_consuming hst _ _ _ _ _

theorem step_linkErr_of_not_consuming {s : State} (hst : s.st.consuming = false) (x : CycleInput) (l l' : Bool)
    (xs : List CycleInput) :
    step { s with env := { x with linkErr := l } :: xs } = step { s with env := { x with linkErr := l' } :: xs } := by
  unfold step
  rw [← operation_linkErr_of_not_consuming hst x l l' xs]
  exact endCycle_exec_of_not_byteConsuming (x := { x with linkErr := l }) (y := { x with linkErr := l' })
    (opClass_of_not_consuming (s := { s with env := { x with linkErr := l } :: xs }) hst) s rfl xs

/-! ### The outputs -/

/-- The byte-consuming class is the eight operations of 30_encoding.md R65. -/
theorem opClass_byteConsuming_iff (i : Instr) :
    i.opClass = .byteConsuming ↔
      (∃ b, i = .m0Capture b) ∨ i = .m1Match ∨ (∃ q b, i = .m1Mismatch q b) ∨ (∃ b, i = .lenHi b) ∨
      (∃ q b, i = .lenLo q b) ∨ i = .lenLoZero ∨ (∃ b, i = .bodyByte b) ∨ (∃ b, i = .bodyLast b) := by
  cases i <;> simp [Instr.opClass]

theorem flushes_iff (i : Instr) : flushes i = true ↔ ∃ q b, i = .m1Mismatch q b := by
  cases i <;> simp [flushes]

theorem outputs_rxReady_iff (s : State) : s.outputs.rxReady = true ↔ s.operation.opClass = .byteConsuming := beq_iff_eq

theorem outputs_of_sEmit {s : State} (hst : s.st = .sEmit) :
    s.outputs.outTs = some s.ts ∧ s.outputs.outFields = some (outWords s.fld) := ⟨if_pos hst, if_pos hst⟩

theorem outputs_of_not_sEmit {s : State} (hst : s.st ≠ .sEmit) :
    s.outputs.outTs = none ∧ s.outputs.outFields = none := ⟨if_neg hst, if_neg hst⟩

/-- The emitted words are the first twelve of the field file (43_validate.md R107). -/
theorem getElem_outWords (fld : Vector Word 14) (i : Nat) (h : i < 12) : (outWords fld)[i] = fld[i] := by
  interval_cases i <;> rfl

/-! ### The obligations of the state -/

/-- Settles O47: both parts of the invariant are kept by whatever the cycle performs. -/
theorem everyCycleKeepsTheInvariant : Obligations.EveryCycleKeepsTheInvariant := by
  intro s t hinv hstep
  obtain ⟨u, hu, rfl⟩ := performs_of_step hstep
  exact (hu.inv hinv).tick

/-- Settles O52: `SameLive` is a simulation that fixes operation and outputs. -/
theorem deadRegistersMakeNoDifference : Obligations.DeadRegistersMakeNoDifference :=
  fun _ _ _ h hstep => ⟨h.operation, h.outputs, h.step hstep⟩

/-- Settles O13: row 1 comes first and takes every word with `W[15]` set; the rest is the decoder's own answer. -/
theorem reservedStateCodesHoldTheFault : Obligations.ReservedStateCodesHoldTheFault := by
  refine ⟨fun w hw => ?_, fun w => decode_of_no_row⟩
  cases hrst : w.getLsbD 15 with
  | true => exact decode_of_wordRst hrst
  | false => exact decode_of_reserved ((reservedCode_iff _).mpr hw) hrst

/-- Settles O28: neither the choice of the operation nor its effect reads `link_err`. -/
theorem linkErrIsIgnoredOutsideConsumingStates : Obligations.LinkErrIsIgnoredOutsideConsumingStates := by
  intro s x xs hst
  obtain ⟨t, ht⟩ := everyCycleAnswersANextState { s with env := { x with linkErr := true } :: xs }
  exact ⟨t, ht, (step_linkErr_of_not_consuming hst x false true xs).trans ht⟩

/-- Settles O30, output by output. -/
theorem outputsFollowStateAndOperation : Obligations.OutputsFollowStateAndOperation := by
  intro s
  refine ⟨(outputs_rxReady_iff s).trans (opClass_byteConsuming_iff _),
    fun h => State.rxValid_of_byteConsuming ((outputs_rxReady_iff s).mp h), flushes_iff _, beq_iff_eq, fun hst => ?_,
    outputs_of_not_sEmit, beq_iff_eq, ?_⟩
  · obtain ⟨hts, hfields⟩ := outputs_of_sEmit hst
    exact ⟨hts, outWords s.fld, hfields, getElem_outWords s.fld⟩
  · show s.faultCode.code = _
    cases s.faultCode <;> rfl

/-- Settles O34: no operation writes them, and the end of the cycle advances the script and the number. -/
theorem parametersAreFixedAndTimePasses : Obligations.ParametersAreFixedAndTimePasses := by
  intro s t hstep
  obtain ⟨u, hu, rfl⟩ := performs_of_step hstep
  obtain ⟨hpolicy, henv, hcycle⟩ := hu.parameters
  exact ⟨hpolicy, congrArg List.tail henv, congrArg (· + 1) hcycle⟩

/-- Settles O53: in `S_M0` no data register is live, and every run keeps the agreement. -/
theorem earlierFramesMakeNoDifference : Obligations.EarlierFramesMakeNoDifference := by
  intro n s s' m0ok len cnt csum fld ts hst hrun
  obtain ⟨t', ht', h⟩ := (sameLive_withData_of_sM0 hst ⟨m0ok, len, cnt, csum, fld, ts⟩).runCycles hrun
  exact ⟨t', ht', h.st.symm, h.faultCode.symm, h.rx.symm, h.observed.symm, h.outputs.symm⟩

/-- Settles O48: in `S_M0` the invariant asks only that there is no fault code. -/
theorem invariantHoldsAtReset : Obligations.InvariantHoldsAtReset :=
  (inv_iff State.reset).mpr ⟨⟨iff_of_true rfl nofun, nofun⟩, trivial⟩

/-- Settles O49, each value as `State.reset` gives it. -/
theorem resetLeavesTheStatedValues : Obligations.ResetLeavesTheStatedValues := ⟨rfl, rfl, rfl, rfl, rfl⟩

end Sys2Proof.Machine
end

section
/-! PROOFS. FSYNC's surroundings (20_memory.md): what a cycle takes from the input sequence, what it lets be seen, that a
wait has no end of its own, and the byte-wise sum of the field file. -/

namespace Sys2Proof.Machine

/-! ### The input sequence -/

/-- A cycle performs a byte-consuming operation only with no reset, the link up and a byte presented (R37). -/
theorem State.inputs_of_byteConsuming {s : State} (h : s.operation.opClass = .byteConsuming) :
    s.inputs.rst = false ∧ s.inputs.linkErr = false ∧ s.rxValid = true := by
  rw [s.operation_eq_selectOp] at h
  obtain ⟨-, hrst, hlink, hv⟩ := fields_of_selectOp_byteConsuming h
  exact ⟨hrst, hlink, hv⟩

/-- A byte-consuming operation takes the oldest byte, and the one that flushes drops the cycle's draw of the rest (R39). -/
theorem Performs.rx_of_byteConsuming {s u : State} {i : Instr} (h : Performs s i u) (hi : i.opClass = .byteConsuming) :
    u.rx = if flushes i = true then s.rx.tail.drop s.inputs.flushDraw else s.rx.tail := by
  cases h with
  | m0Capture | m1Match | m1Mismatch | lenHi | lenLo | lenLoZero | bodyByte | bodyLast => rfl
  | reset | linkFault | rxWait | vlenOk | vlenBadDiscard | vlenBadFault | vsumOk | vsumBad | emitDone | emitHold
  | faultHold => nomatch hi

/-- No other operation touches the input sequence or flushes. -/
theorem Performs.rx_of_not_byteConsuming {s u : State} {i : Instr} (h : Performs s i u)
    (hi : i.opClass ≠ .byteConsuming) : flushes i = false ∧ u.rx = s.rx := by
  cases h with
  | m0Capture | m1Match | m1Mismatch | lenHi | lenLo | lenLoZero | bodyByte | bodyLast => exact absurd rfl hi
  | reset | linkFault | rxWait | vlenOk | vlenBadDiscard | vlenBadFault | vsumOk | vsumBad | emitDone | emitHold
  | faultHold => exact ⟨rfl, rfl⟩

/-! ### What an operation lets be seen -/

/-- The observations of one cycle that starts in `s` and performs the operation. -/
def State.observations (s : State) : Instr → List Observation
  | .emitDone => [.record s.record]
  | .m1Mismatch _ _ => [.flushPulse]
  | .linkFault => [.faultRose .link]
  | .vlenBad => if s.lenPolicy = .fault then [.faultRose .length] else []
  | .reset | .rxWait | .m0Capture _ | .m1Match | .lenHi _ | .lenLo _ _ | .lenLoZero | .bodyByte _ | .bodyLast _
  | .vlenOk | .vsumOk | .vsumBad | .emitHold | .faultHold => []

/-- An operation adds its own observations to those before and leaves these as they are. -/
theorem Performs.observed {s u : State} {i : Instr} (h : Performs s i u) :
    u.observed = s.observed ++ s.observations i := by
  cases h with
  | linkFault | m1Mismatch | emitDone => rfl
  | vlenBadDiscard _ hpolicy | vlenBadFault _ hpolicy => simp [State.observations, hpolicy]
  | reset | rxWait | m0Capture | m1Match | lenHi | lenLo | lenLoZero | bodyByte | bodyLast | vlenOk | vsumOk | vsumBad
  | emitHold | faultHold => exact (List.append_nil _).symm

/-! ### Waits -/

/-- A hold performs nothing (30_encoding.md R65). -/
theorem Performs.eq_of_hold {s u : State} {i : Instr} (h : Performs s i u) (hi : i.opClass = .hold) : u = s := by
  cases h with
  | rxWait | emitHold | faultHold => rfl
  | reset | linkFault | m0Capture | m1Match | m1Mismatch | lenHi | lenLo | lenLoZero | bodyByte | bodyLast | vlenOk
  | vlenBadDiscard | vlenBadFault | vsumOk | vsumBad | emitDone => nomatch hi

theorem step_of_hold {s : State} (h : s.operation.opClass = .hold) : step s = .next s.tick := by
  obtain ⟨u, hu⟩ := exists_performs_operation s
  rw [hu.step_eq, hu.eq_of_hold h]

@[simp] theorem State.idle_st (s : State) (n : Nat) : (s.idle n).st = s.st := rfl
@[simp] theorem State.idle_rx (s : State) (n : Nat) : (s.idle n).rx = s.rx := rfl
@[simp] theorem State.idle_zero (s : State) : s.idle 0 = s := rfl

/-- One idle cycle more, counted at the start. -/
theorem State.idle_tick (s : State) (n : Nat) : s.tick.idle n = s.idle (n + 1) := by
  simp [State.idle, State.tick, Nat.add_assoc, Nat.add_comm 1 n]

/-- After `n` idle cycles the current inputs are those `n` cycles ahead of the start. -/
@[simp] theorem State.inputs_idle (s : State) (n : Nat) : (s.idle n).inputs = s.inputsAt n := by
  simp [State.inputs, State.inputsAt, State.idle]

/-- A run all of whose cycles hold changes nothing but the script and the cycle number. -/
theorem runCycles_of_hold {n : Nat} {s : State} (h : ∀ j, j < n → (s.idle j).operation.opClass = .hold) :
    runCycles n s = .next (s.idle n) := by
  induction n generalizing s with
  | zero => rfl
  | succ n ih =>
    have hnow : s.operation.opClass = .hold := h 0 n.succ_pos
    rw [runCycles_succ_of_step (step_of_hold hnow), ← s.idle_tick]
    exact ih fun j hj => s.idle_tick j ▸ h (j + 1) (Nat.succ_lt_succ hj)

/-- A consuming state with the link up and no byte presented waits (40_sync.md R79). -/
theorem operation_of_no_byte {s : State} (hst : s.st.consuming = true) (hup : Up s.inputs) (hv : s.rxValid = false) :
    s.operation = .rxWait := by
  obtain ⟨hrst, hlink⟩ := hup
  simp [s.operation_eq_selectOp, selectOp_of_consuming hst, hrst, hlink, hv]

/-- `S_EMIT` holds its record while the consumer is not ready (43_validate.md R108). -/
theorem operation_of_not_ready {s : State} (hst : s.st = .sEmit) (hrst : s.inputs.rst = false)
    (hready : s.inputs.outReady = false) : s.operation = .emitHold := by
  simp [s.operation_eq_selectOp, selectOp, State.qualifier, hst, hrst, hready]

theorem State.rxValid_eq_false {s : State} (h : s.inputs.present = false ∨ s.rx = []) : s.rxValid = false := by
  rcases h with h | h <;> simp [State.rxValid, h]

/-! ### The byte-wise sum -/

/-- The integer sum of a word's two bytes. -/
def wordByteSum (w : Word) : Nat := (hiByte w).toNat + (loByte w).toNat

/-- Bytes `2n` and `2n + 1` of the field file are the two bytes of word `n`, high byte first (R44). -/
theorem bodyByteAt_word (fld : Vector Word 14) {n : Nat} (h : n < 14) :
    bodyByteAt fld (2 * n) = hiByte fld[n] ∧ bodyByteAt fld (2 * n + 1) = loByte fld[n] := by
  have hhi : 2 * n < 28 := by omega
  have hlo : 2 * n + 1 < 28 := by omega
  have hdiv : (2 * n + 1) / 2 = n := by omega
  simp [bodyByteAt, hhi, hlo, hdiv]

/-- The sum of the first `2n` bytes is the sum over the first `n` words of their bytes. -/
theorem byteSum_two_mul (fld : Vector Word 14) {n : Nat} (h : n ≤ 14) :
    byteSum fld (2 * n) = ((fld.toList.take n).map wordByteSum).sum := by
  induction n with
  | zero => rfl
  | succ n ih =>
    have hn : n < fld.toList.length := by simpa using h
    obtain ⟨hhi, hlo⟩ := bodyByteAt_word fld h
    calc byteSum fld (2 * (n + 1))
        = byteSum fld (2 * n) + wordByteSum fld[n] := by
          simp only [Nat.mul_succ, byteSum, hhi, hlo, wordByteSum, Nat.add_assoc]
      _ = ((fld.toList.take n).map wordByteSum).sum + wordByteSum fld[n] := by rw [ih (by omega)]
      _ = ((fld.toList.take (n + 1)).map wordByteSum).sum := by
          simp [List.take_succ_eq_append_getElem hn]

/-! ### The obligations of the surroundings -/

/-- Settles O31: `rx_ready` tells the byte-consuming operations, and only these take from the input sequence. -/
theorem bytesAreConsumedOnlyThroughRxReady : Obligations.BytesAreConsumedOnlyThroughRxReady := by
  intro s t hstep
  obtain ⟨u, hu, rfl⟩ := performs_of_step hstep
  refine ⟨fun hready => ?_, fun hready => ?_⟩
  · have hclass := (outputs_rxReady_iff s).mp hready
    obtain ⟨hrst, hlink, hv⟩ := State.inputs_of_byteConsuming hclass
    obtain ⟨hpresent, -⟩ := s.rxValid_iff.mp hv
    exact ⟨hlink, hrst, hpresent, s.rx.tail, State.rx_of_rxValid hv, hu.rx_of_byteConsuming hclass⟩
  · have hclass : s.operation.opClass ≠ .byteConsuming := fun h => by
      simp [(outputs_rxReady_iff s).mpr h] at hready
    exact hu.rx_of_not_byteConsuming hclass

/-- Settles O32: each operation adds the observations of `State.observations`; the record is words 0 to 11 and `ts`. -/
theorem observedEventsOfEveryOperation : Obligations.ObservedEventsOfEveryOperation := by
  intro s t hstep
  obtain ⟨u, hu, rfl⟩ := performs_of_step hstep
  refine ⟨s.observations s.operation, hu.observed, ?_⟩
  cases s.operation with
  | emitDone => exact ⟨s.record, rfl, rfl, getElem_outWords s.fld⟩
  | reset | linkFault | rxWait | m0Capture | m1Match | m1Mismatch | lenHi | lenLo | lenLoZero | bodyByte | bodyLast
  | vlenOk | vlenBad | vsumOk | vsumBad | emitHold | faultHold => rfl

/-- Settles O38: every cycle of either wait is a hold, RX_WAIT or EMIT_HOLD. -/
theorem waitsAreUnbounded : Obligations.WaitsAreUnbounded := by
  refine ⟨fun n s hst h => runCycles_of_hold fun j hj => ?_, fun n s hst h => runCycles_of_hold fun j hj => ?_⟩
  · obtain ⟨hup, hbyte⟩ := h j hj
    rw [← s.inputs_idle] at hup hbyte
    rw [operation_of_no_byte (s := s.idle j) hst hup (State.rxValid_eq_false hbyte)]
    rfl
  · obtain ⟨hrst, hready⟩ := h j hj
    rw [← s.inputs_idle] at hrst hready
    rw [operation_of_not_ready (s := s.idle j) hst hrst hready]
    rfl

/-- Settles O56: 26 bytes are 13 words. -/
theorem byteSumIsTheWordSum : Obligations.ByteSumIsTheWordSum := fun fld => byteSum_two_mul fld (n := 13) (by decide)

end Sys2Proof.Machine
end

section
/-! PROOFS. The encoding (30_encoding.md R63 to R69): the fields of the decode word, the decode of every word by its
fields, the encoder, the qualifier and the flat record. -/

namespace Sys2Proof

/-! ### The fields of a decode word -/

section
variable (rst linkErr rxValid : Bool) (c : BitVec 4) (q : Bool) (b : Byte)

@[simp] theorem wordRst_mkWord : wordRst (mkWord rst linkErr rxValid c q b) = rst := by
  simp only [wordRst, mkWord, BitVec.getLsbD_append]
  simp

@[simp] theorem wordLinkErr_mkWord : wordLinkErr (mkWord rst linkErr rxValid c q b) = linkErr := by
  simp only [wordLinkErr, mkWord, BitVec.getLsbD_append]
  simp

@[simp] theorem wordRxValid_mkWord : wordRxValid (mkWord rst linkErr rxValid c q b) = rxValid := by
  simp only [wordRxValid, mkWord, BitVec.getLsbD_append]
  simp

@[simp] theorem wordSt_mkWord : wordSt (mkWord rst linkErr rxValid c q b) = c := by
  rw [wordSt, mkWord, BitVec.extractLsb'_append_eq_of_le (by decide), BitVec.extractLsb'_append_eq_of_le (by decide),
    BitVec.extractLsb'_append_eq_right]

@[simp] theorem wordQ_mkWord : wordQ (mkWord rst linkErr rxValid c q b) = q := by
  simp only [wordQ, mkWord, BitVec.getLsbD_append]
  simp

@[simp] theorem wordByte_mkWord : wordByte (mkWord rst linkErr rxValid c q b) = b :=
  BitVec.extractLsb'_append_eq_right

end

/-- A word is made of its fields: they cover its 16 bits. -/
theorem mkWord_fields (w : Word) :
    mkWord (wordRst w) (wordLinkErr w) (wordRxValid w) (wordSt w) (wordQ w) (wordByte w) = w := by
  apply BitVec.eq_of_getLsbD_eq
  intro i hi
  simp only [mkWord, BitVec.getLsbD_append, wordRst, wordLinkErr, wordRxValid, wordSt, wordQ, wordByte]
  interval_cases i <;> simp

/-! ### The state codes -/

/-- A code is reserved or the code of the state it stands for (10_state.md R16, R18). -/
theorem code_ofCode : ∀ {c : BitVec 4}, reservedCode c = false → (StCode.ofCode c).code = c := by decide

theorem ofCode_of_reserved : ∀ {c : BitVec 4}, reservedCode c = true → StCode.ofCode c = .sFault := by decide

theorem reservedCode_code (st : StCode) : reservedCode st.code = false := by cases st <;> rfl

/-! ### The decode of every word -/

/-- The decoder selects by the fields of the word; a reserved code acts as `S_FAULT` (10_state.md R18, R66). -/
theorem decode_eq_selectOp (w : Word) :
    decode w = selectOp (wordRst w) (wordLinkErr w) (wordRxValid w) (.ofCode (wordSt w)) (wordQ w) (wordByte w) := by
  cases hc : reservedCode (wordSt w) with
  | false =>
    have h := decode_mkWord (wordRst w) (wordLinkErr w) (wordRxValid w) (.ofCode (wordSt w)) (wordQ w) (wordByte w)
    rwa [code_ofCode hc, mkWord_fields] at h
  | true =>
    rw [ofCode_of_reserved hc]
    cases hrst : wordRst w with
    | true => exact decode_of_wordRst hrst
    | false => exact decode_of_reserved hc hrst

theorem wellFormed_m1Mismatch_iff (q : Bool) (b : Byte) :
    (Instr.m1Mismatch q b).WellFormed ↔ (q && b == 0x4D#8) = false := iff_of_eq (Bool.not_eq_true' _)

theorem wellFormed_lenLo_iff (q : Bool) (b : Byte) :
    (Instr.lenLo q b).WellFormed ↔ (q && b == 0x00#8) = false := iff_of_eq (Bool.not_eq_true' _)

/-- Row 6 is reached only where the test of row 5 fails, and row 9 only where that of row 8 fails (R66). -/
theorem selectOp_wellFormed (rst linkErr rxValid : Bool) (st : StCode) (q : Bool) (b : Byte) :
    (selectOp rst linkErr rxValid st q b).WellFormed := by
  cases hst : st.consuming with
  | false =>
    cases st with
    | sVlen | sVsum | sEmit | sFault => cases rst <;> cases q <;> rfl
    | sM0 | sM1 | sL0 | sL1 | sBody => exact absurd hst (by decide)
  | true =>
    rw [selectOp_of_consuming hst]
    split
    · rfl
    split
    · rfl
    split
    · rfl
    cases st with
    | sM0 | sL0 => rfl
    | sBody => cases q <;> rfl
    | sM1 =>
      rw [Machine.selectOp_sM1]
      split
      next => rfl
      next h => exact (wellFormed_m1Mismatch_iff q b).mpr (eq_false_of_ne_true h)
    | sL1 =>
      rw [Machine.selectOp_sL1]
      split
      next => rfl
      next h => exact (wellFormed_lenLo_iff q b).mpr (eq_false_of_ne_true h)
    | sVlen | sVsum | sEmit | sFault => exact absurd hst (by decide)

/-! ### The encoder -/

/-- A word with given fields decodes to the operation these fields select. -/
theorem decode_of_eq_mkWord {w : Word} {i : Instr} (rst linkErr rxValid : Bool) (st : StCode) (q : Bool) (b : Byte)
    (hw : w = mkWord rst linkErr rxValid st.code q b) (hi : selectOp rst linkErr rxValid st q b = i) : decode w = i := by
  rw [hw, decode_mkWord, hi]

/-- The encoder gives each operation a cycle's fields that select it; a row left to other operand values is the only
obstacle, and `WellFormed` shuts it out. -/
theorem decode_encode {i : Instr} (h : i.WellFormed) : decode (encode i) = i := by
  cases i with
  | reset => exact decode_of_eq_mkWord true false false .sM0 false 0 rfl rfl
  | linkFault => exact decode_of_eq_mkWord false true false .sM0 false 0 rfl rfl
  | rxWait => exact decode_of_eq_mkWord false false false .sM0 false 0 rfl rfl
  | m0Capture b => exact decode_of_eq_mkWord false false true .sM0 false b rfl rfl
  | m1Match => exact decode_of_eq_mkWord false false true .sM1 true 0x4D#8 rfl rfl
  | m1Mismatch q b =>
    refine decode_of_eq_mkWord false false true .sM1 q b (by cases q <;> rfl) ?_
    rw [Machine.selectOp_sM1, (wellFormed_m1Mismatch_iff q b).mp h]
    rfl
  | lenHi b => exact decode_of_eq_mkWord false false true .sL0 false b rfl rfl
  | lenLo q b =>
    refine decode_of_eq_mkWord false false true .sL1 q b (by cases q <;> rfl) ?_
    rw [Machine.selectOp_sL1, (wellFormed_lenLo_iff q b).mp h]
    rfl
  | lenLoZero => exact decode_of_eq_mkWord false false true .sL1 true 0x00#8 rfl rfl
  | bodyByte b => exact decode_of_eq_mkWord false false true .sBody false b rfl rfl
  | bodyLast b => exact decode_of_eq_mkWord false false true .sBody true b rfl rfl
  | vlenOk => exact decode_of_eq_mkWord false false false .sVlen true 0 rfl rfl
  | vlenBad => exact decode_of_eq_mkWord false false false .sVlen false 0 rfl rfl
  | vsumOk => exact decode_of_eq_mkWord false false false .sVsum true 0 rfl rfl
  | vsumBad => exact decode_of_eq_mkWord false false false .sVsum false 0 rfl rfl
  | emitDone => exact decode_of_eq_mkWord false false false .sEmit true 0 rfl rfl
  | emitHold => exact decode_of_eq_mkWord false false false .sEmit false 0 rfl rfl
  | faultHold => exact decode_of_eq_mkWord false false false .sFault false 0 rfl rfl

theorem decode_wellFormed (w : Word) : (decode w).WellFormed := by
  rw [decode_eq_selectOp]
  exact selectOp_wellFormed ..

/-! ### The first matching row -/

/-- The row tests the first byte of a word alone, and takes this one. -/
def DecodeRow.takesHead (r : DecodeRow) (h : Byte) : Bool :=
  Machine.loByte r.mask == 0x00#8 && Machine.loByte r.pattern == 0x00#8 &&
    (h &&& Machine.hiByte r.mask == Machine.hiByte r.pattern)

theorem DecodeRow.hits_of_takesHead {r : DecodeRow} {h : Byte} (hr : r.takesHead h = true) (b : Byte) :
    r.hits (h ++ b) = true := by
  simp only [takesHead, Bool.and_eq_true, beq_iff_eq] at hr
  obtain ⟨⟨hmask, hpattern⟩, hhead⟩ := hr
  have key := and_append_beq h b (Machine.hiByte r.mask) (Machine.loByte r.mask) (Machine.hiByte r.pattern)
    (Machine.loByte r.pattern)
  rw [Machine.hiByte_append_loByte, Machine.hiByte_append_loByte, hmask, hpattern, hhead, byte_and_zero] at key
  simpa [hits] using key

/-- Some row takes the word of a defined state on its first byte alone: the rows of the one pair and of the zero length,
which look at the second byte too, are refinements of rows that do not (R66). -/
theorem exists_takesHead (rst linkErr rxValid : Bool) (st : StCode) (q : Bool) :
    decodeTable.any (·.takesHead (wordHead rst linkErr rxValid st q)) = true := by
  revert rst linkErr rxValid q
  cases st <;> decide

theorem exists_row_hits {w : Word} (hc : reservedCode (wordSt w) = false) : ∃ r ∈ decodeTable, r.hits w = true := by
  have hw := mkWord_fields w
  rw [← code_ofCode hc, mkWord_eq] at hw
  obtain ⟨r, hr, hhead⟩ := List.any_eq_true.mp
    (exists_takesHead (wordRst w) (wordLinkErr w) (wordRxValid w) (.ofCode (wordSt w)) (wordQ w))
  exact ⟨r, hr, hw ▸ DecodeRow.hits_of_takesHead hhead (wordByte w)⟩

/-- The decode of a word with a defined state code, told by the table: the operation of the first row that the word
matches. -/
theorem exists_first_row {w : Word} (hc : reservedCode (wordSt w) = false) :
    ∃ pre r post, decodeTable = pre ++ r :: post ∧ w &&& r.mask = r.pattern ∧
      (∀ p ∈ pre, w &&& p.mask ≠ p.pattern) ∧ decode w = r.op w := by
  obtain ⟨r, hr⟩ := Option.isSome_iff_exists.mp (List.find?_isSome.mpr (exists_row_hits hc))
  obtain ⟨hhit, pre, post, htable, hpre⟩ := List.find?_eq_some_iff_append.mp hr
  have hfirst : firstRow w = some r := hr
  refine ⟨pre, r, post, htable, beq_iff_eq.mp hhit, fun p hp heq => ?_, by simp [decode, hc, hfirst]⟩
  simpa [DecodeRow.hits, heq] using hpre p hp

end Sys2Proof

namespace Sys2Proof.Machine

/-! ### The obligations of the encoding -/

/-- The first matching row gives the operation of every cycle: the state register holds no reserved code (R66). -/
theorem operation_firstRow (s : State) :
    ∃ pre r post, decodeTable = pre ++ r :: post ∧ s.word &&& r.mask = r.pattern ∧
      (∀ p ∈ pre, s.word &&& p.mask ≠ p.pattern) ∧ s.operation = r.op s.word :=
  exists_first_row (w := s.word) (by rw [State.word, wordSt_mkWord, reservedCode_code])

/-- Settles O11: the encoder gives each operation the word of fields that select it. -/
theorem decodeOfEncodeIsTheOperation : Obligations.DecodeOfEncodeIsTheOperation := fun _ => decode_encode

/-- Settles O12: every word selects by its fields, and every selection is well formed. -/
theorem decodedOperationsAreWellFormed : Obligations.DecodedOperationsAreWellFormed :=
  fun w => ⟨decode_wellFormed w, decode_encode (decode_wellFormed w)⟩

/-- Settles O14: a word with a defined state code is taken by some row, so by a first one. -/
theorem definedWordsTakeTheFirstMatchingRow : Obligations.DefinedWordsTakeTheFirstMatchingRow :=
  fun w hw => exists_first_row (eq_false_of_ne_true (mt (reservedCode_iff (wordSt w)).mp hw))

/-- Settles O8: the word is formed of the cycle's fields, and the state register holds no reserved code. -/
theorem decodeWordCarriesTheCyclesFields : Obligations.DecodeWordCarriesTheCyclesFields := fun s =>
  ⟨wordRst_mkWord .., wordLinkErr_mkWord .., wordRxValid_mkWord .., wordSt_mkWord .., wordQ_mkWord ..,
    wordByte_mkWord .., operation_firstRow s⟩

/-- Settles O9: the definition's own table, and in `S_BODY` the 17-bit test as one of integers. -/
theorem qualifierFollowsItsTable : Obligations.QualifierFollowsItsTable := by
  intro s
  refine ⟨?sM0, ?sM1, ?sL0, ?sL1, ?sBody, ?sVlen, ?sVsum, ?sEmit, ?sFault⟩ <;> intro hst <;>
    simp only [State.qualifier, hst]
  case sL1 => rfl
  case sBody => exact Bool.eq_iff_iff.mpr ((lastBodyByte_iff ..).trans decide_eq_true_iff.symm)

/-- Settles O10, by the fields of each word. -/
theorem sampleWordsDecodeToTheirOperations : Obligations.SampleWordsDecodeToTheirOperations := by
  simp only [Obligations.SampleWordsDecodeToTheirOperations, decode_eq_selectOp]
  decide

/-- Settles O29: `Performs` tells the state each operation belongs to and the one it leaves. -/
theorem nextStateTable : Obligations.NextStateTable := by
  intro s t hstep
  obtain ⟨u, hu, rfl⟩ := performs_of_step hstep
  generalize s.operation = i at hu
  cases hu with
  | reset | rxWait | emitHold | faultHold => rfl
  | bodyByte _ hst => exact ⟨hst, hst⟩
  | vlenBadDiscard hst hpolicy => exact ⟨hst, (if_pos hpolicy).symm⟩
  | vlenBadFault hst hpolicy => exact ⟨hst, by simp [hpolicy]⟩
  | linkFault hst | m0Capture _ hst | m1Match hst | m1Mismatch _ _ hst | lenHi _ hst | lenLo _ _ hst | lenLoZero hst
  | bodyLast _ hst | vlenOk hst | vsumOk hst | vsumBad hst | emitDone hst => exact ⟨hst, rfl⟩

/-- Settles O57: the words below the wanted one are skipped one by one. -/
theorem flatRecordLayout : Obligations.FlatRecordLayout := by
  refine fun r => ⟨fun i hi => ?_, BitVec.extractLsb'_append_eq_left⟩
  rw [Record.flat, BitVec.extractLsb'_append_eq_of_add_le (by omega)]
  obtain rfl | hlow : i = 11 ∨ i < 11 := by omega
  · repeat rw [BitVec.extractLsb'_append_eq_of_le (by decide)]
    exact BitVec.extractLsb'_eq_self
  · interval_cases i
    all_goals
      repeat rw [BitVec.extractLsb'_append_eq_of_le (by decide)]
      exact BitVec.extractLsb'_append_eq_right

end Sys2Proof.Machine
end

section
/-! PROOFS. Served frames (30_encoding.md R72, 43_validate.md R110): the operation of a cycle with a byte presented, the
body of a frame in the registers, the cycles of a frame, and what passes the checksum. -/

namespace Sys2Proof.Machine

/-! ### The operation of one cycle -/

/-- A cycle performs the operation it selects. -/
theorem step_of_performs {s u : State} {i : Instr} (hi : s.operation = i) (h : Performs s i u) : step s = .next u.tick :=
  Performs.step_eq (hi ▸ h)

/-- With a byte presented, a consuming state performs its own operation on it (60_exceptions.md R120). -/
theorem BytePresent.operation {s : State} {c : StCode} (h : BytePresent s c) (hc : c.consuming = true) :
    s.operation = selectOp false false true c s.qualifier s.rxData := by
  obtain ⟨rfl, hrst, hlink, hv⟩ := h
  rw [s.operation_eq_selectOp, hrst, hlink, hv]

/-- The length check ignores the link and the byte inputs (43_validate.md R101, R102). -/
theorem operation_of_sVlen {s : State} (hst : s.st = .sVlen) (hrst : s.inputs.rst = false) :
    s.operation = if s.len = 28#16 then .vlenOk else .vlenBad := by
  simp [s.operation_eq_selectOp, selectOp, State.qualifier, hst, hrst]

/-- So does the checksum comparison (43_validate.md R105, R106). -/
theorem operation_of_sVsum {s : State} (hst : s.st = .sVsum) (hrst : s.inputs.rst = false) :
    s.operation = if s.fld[13] = s.csum then .vsumOk else .vsumBad := by
  simp [s.operation_eq_selectOp, selectOp, State.qualifier, hst, hrst]

/-- A presented record is transferred to a ready consumer (43_validate.md R109). -/
theorem operation_of_ready {s : State} (hst : s.st = .sEmit) (hrst : s.inputs.rst = false)
    (hready : s.inputs.outReady = true) : s.operation = .emitDone := by
  simp [s.operation_eq_selectOp, selectOp, State.qualifier, hst, hrst, hready]

/-- In the body the last byte is told by the count and the length as integers (R64, R96, R97). -/
theorem BytePresent.operation_of_sBody {s : State} (h : BytePresent s .sBody) :
    s.operation = if s.cnt.toNat + 1 = s.len.toNat then .bodyLast s.rxData else .bodyByte s.rxData := by
  have hq : s.qualifier = lastBodyByte s.cnt s.len := by
    obtain ⟨hst, -⟩ := h
    simp only [State.qualifier, hst]
  rw [h.operation rfl, hq]
  simp only [selectOp, Bool.not_true, Bool.false_eq_true, if_false, lastBodyByte_iff]

/-! ### What passes the checksum -/

/-- In `S_VSUM` and `S_EMIT` the frame had 28 counted bytes, and the sum is over its first 26. -/
theorem Inv.frame_counted {s : State} (h : Inv s) (hst : s.st = .sVsum ∨ s.st = .sEmit) :
    s.len = 28#16 ∧ s.cnt = 28#16 ∧ s.csum.toNat = 0x00AB + byteSum s.fld 26 := by
  have hlen := h.length_ok hst
  have hcnt := (h.body_done (.inr hst)).trans hlen
  have hsum := h.sum_ok (.inr (.inr hst))
  rw [hcnt] at hsum
  exact ⟨hlen, hcnt, hsum⟩

/-- Settles O50: a record is transferred from `S_EMIT` alone, where the invariant has the comparison's result. -/
theorem transferredRecordsPassedTheChecksum : Obligations.TransferredRecordsPassedTheChecksum := by
  intro s t hinv hstep _ hop
  obtain ⟨u, hu, rfl⟩ := performs_of_step hstep
  rw [hop] at hu
  cases hu with
  | emitDone hst =>
    obtain ⟨hlen, hcnt, hsum⟩ := hinv.frame_counted (.inr hst)
    exact ⟨s.record, rfl, getElem_outWords s.fld, hlen, hcnt, (congrArg BitVec.toNat (hinv.emit_ok hst)).trans hsum⟩

/-- Settles O51: 26 bytes sum to at most 26 * 255, so no computed checksum is above 0x1A91. -/
theorem largeChecksumFieldsAreNeverAccepted : Obligations.LargeChecksumFieldsAreNeverAccepted := by
  intro s hinv hst hrst hlarge
  obtain ⟨-, -, hsum⟩ := hinv.frame_counted (.inl hst)
  have hbound := byteSum_le s.fld 26
  have hne : s.fld[13] ≠ s.csum := fun heq => by
    rw [heq] at hlarge
    omega
  exact step_of_performs ((operation_of_sVsum hst hrst).trans (if_neg hne)) (.vsumBad hst)

/-! ### The body in the registers -/

/-- Storing bytes from number `i` on leaves the bytes before. -/
theorem bodyByteAt_storeBytes_of_lt (body : List Byte) {fld : Vector Word 14} {i j : Nat} (h : j < i) :
    bodyByteAt (storeBytes fld i body) j = bodyByteAt fld j := by
  induction body generalizing fld i with
  | nil => rfl
  | cons b bs ih => rw [storeBytes, ih (by omega), bodyByteAt_store_of_ne fld b (by omega)]

/-- Byte `k` of a body stored from number `i` on is found under number `i + k` (42_body.md R92). -/
theorem bodyByteAt_storeBytes (body : List Byte) {fld : Vector Word 14} {i k : Nat} (h : i + k < 28)
    (hk : k < body.length) : bodyByteAt (storeBytes fld i body) (i + k) = body[k] := by
  induction body generalizing fld i k with
  | nil => exact absurd hk (Nat.not_lt_zero k)
  | cons b bs ih =>
    cases k with
    | zero =>
      rw [Nat.add_zero, storeBytes, bodyByteAt_storeBytes_of_lt bs (Nat.lt_succ_self i)]
      exact bodyByteAt_store_self fld b (i := i) h
    | succ k =>
      rw [storeBytes, show i + (k + 1) = i + 1 + k by omega, ih (by omega) (Nat.lt_of_succ_lt_succ hk)]
      rfl

/-- A word of the field file is its two bytes, big-endian (R44). -/
theorem fld_getElem_eq_bytes (fld : Vector Word 14) {w : Nat} (hw : w < 14) :
    fld[w] = bodyByteAt fld (2 * w) ++ bodyByteAt fld (2 * w + 1) := by
  obtain ⟨hhi, hlo⟩ := bodyByteAt_word fld hw
  rw [hhi, hlo, hiByte_append_loByte]

/-- A body of 28 bytes gives the 14 big-endian words, whatever the field file held (42_body.md R92, R93). -/
theorem storeBytes_getElem (fld : Vector Word 14) {body : List Byte} (h : body.length = 28) {w : Nat} (hw : w < 14) :
    (storeBytes fld 0 body)[w] = bodyWord body w := by
  have stored {k : Nat} (hk : k < 28) : bodyByteAt (storeBytes fld 0 body) k = body.getD k 0#8 := by
    have hkb : k < body.length := by omega
    rw [List.getD_eq_getElem _ _ hkb, ← bodyByteAt_storeBytes body (fld := fld) (i := 0) (by omega) hkb, Nat.zero_add]
  rw [fld_getElem_eq_bytes _ hw, stored (by omega), stored (by omega), bodyWord]

theorem sumBytes_le (bs : List Byte) : sumBytes bs ≤ 255 * bs.length := by
  induction bs with
  | nil => exact Nat.le_refl 0
  | cons b bs ih =>
    have hb := b.isLt
    simp only [sumBytes, List.length_cons]
    omega

/-- From byte number 26 on nothing is added (42_body.md R95). -/
theorem sumBodyBytes_of_le (csum : Word) {i : Nat} (h : 26 ≤ i) (body : List Byte) : sumBodyBytes csum i body = csum := by
  induction body generalizing i with
  | nil => rfl
  | cons b bs ih => rw [sumBodyBytes, sumBodyByte, if_neg (Nat.not_lt.mpr h), ih (by omega)]

/-- The engine adds the first 26 body bytes as integers while their largest sum does not wrap (42_body.md R94, R98). -/
theorem toNat_sumBodyBytes (body : List Byte) {csum : Word} {i : Nat} (h : csum.toNat + 255 * (26 - i) < 65536) :
    (sumBodyBytes csum i body).toNat = csum.toNat + sumBytes (body.take (26 - i)) := by
  induction body generalizing csum i with
  | nil => simp [sumBodyBytes, sumBytes]
  | cons b bs ih =>
    by_cases hi : i < 26
    · have hb := b.isLt
      have hsum := toNat_sumBodyByte csum i b (by omega)
      rw [if_pos hi] at hsum
      rw [sumBodyBytes, ih (by omega), hsum, show 26 - i = (26 - (i + 1)) + 1 by omega, List.take_succ_cons, sumBytes,
        Nat.add_assoc]
    · rw [sumBodyBytes_of_le _ (by omega), show 26 - i = 0 by omega]
      rfl

/-- A whole body, from the sum it starts with. -/
theorem toNat_sumBodyBytes_csumBase (body : List Byte) :
    (sumBodyBytes Config.csumBase 0 body).toNat = checksumNat (body.take 26) :=
  toNat_sumBodyBytes body (csum := Config.csumBase) (i := 0) (by decide)

/-- The checksum field does not wrap either: it is the integer formula (R72). -/
theorem toNat_checksumOf {data : List Byte} (h : data.length ≤ 26) : (checksumOf data).toNat = checksumNat data := by
  have hbound := sumBytes_le data
  have hlt : checksumNat data < 2 ^ 16 := by
    rw [checksumNat]
    omega
  rw [checksumOf, BitVec.toNat_ofNat, Nat.mod_eq_of_lt hlt]

/-- The sum over a body with 26 data bytes is the checksum of the data, whatever the checksum field (R72). -/
theorem sumBodyBytes_append {data : List Byte} (h : data.length = 26) (tail : List Byte) :
    sumBodyBytes Config.csumBase 0 (data ++ tail) = checksumOf data := by
  apply BitVec.eq_of_toNat_eq
  rw [toNat_sumBodyBytes_csumBase, List.take_left' h, toNat_checksumOf (Nat.le_of_eq h)]

theorem bodyWord_append {data : List Byte} {i : Nat} (h : 2 * i + 1 < data.length) (tail : List Byte) :
    bodyWord (data ++ tail) i = bodyWord data i := by
  rw [bodyWord, bodyWord, List.getD_append _ _ _ _ (by omega), List.getD_append _ _ _ _ h]

/-- Word 13 of a body with 26 data bytes is its checksum field (30_encoding.md R61). -/
theorem bodyWord_checksum {data : List Byte} (h : data.length = 26) (c : Word) :
    bodyWord (data ++ wordBytes c) 13 = c := by
  rw [bodyWord, List.getD_append_right _ _ _ _ (by omega), List.getD_append_right _ _ _ _ (by omega), h]
  exact hiByte_append_loByte c

/-! ### Served cycles -/

/-- After `n` idle cycles the inputs are those `n` cycles further on. -/
theorem State.inputsAt_idle (s : State) (n j : Nat) : (s.idle n).inputsAt j = s.inputsAt (n + j) := by
  simp [State.inputsAt, State.idle, Nat.add_assoc]

/-- A run goes on from where its beginning ends. -/
theorem runCycles_add {m : Nat} {s t : State} (h : runCycles m s = .next t) (n : Nat) :
    runCycles (m + n) s = runCycles n t := by
  induction m generalizing s with
  | zero =>
    injection h with h
    rw [Nat.zero_add, h]
  | succ m ih =>
    obtain ⟨u, hu⟩ := everyCycleAnswersANextState s
    rw [runCycles_succ_of_step hu] at h
    rw [Nat.succ_add, runCycles_succ_of_step hu, ih h]

/-- The first cycle of a run performs its operation. -/
theorem runCycles_of_performs {s u : State} {i : Instr} (hi : s.operation = i) (h : Performs s i u) (n : Nat) :
    runCycles (n + 1) s = runCycles n u.tick := runCycles_succ_of_step (step_of_performs hi h)

/-- Whatever a served cycle performs, the cycles behind it are served. -/
theorem ServedFor.after {s u : State} {i : Instr} {n : Nat} (hs : ServedFor s (n + 1)) (h : Performs s i u) :
    ServedFor u.tick n := by
  obtain ⟨-, henv, hcycle⟩ := h.parameters
  intro j hj
  rw [State.inputsAt_tick, State.inputsAt_congr henv hcycle]
  exact hs (j + 1) (Nat.succ_lt_succ hj)

/-- The cycles of a served run behind its first `m` are served. -/
theorem ServedFor.of_idle {s t : State} {n : Nat} (m : Nat) (hs : ServedFor s (n + m)) (henv : t.env = (s.idle m).env)
    (hcycle : t.cycle = (s.idle m).cycle) : ServedFor t n := by
  intro j hj
  rw [State.inputsAt_congr henv hcycle, State.inputsAt_idle]
  exact hs (m + j) (by omega)

theorem ServedFor.serving {s : State} {n : Nat} (hs : ServedFor s (n + 1)) : Serving s.inputs := hs 0 n.succ_pos

/-- A served cycle presents the oldest byte. -/
theorem Serving.bytePresent {s : State} {c : StCode} {b : Byte} {rest : List Byte} (hx : Serving s.inputs)
    (hst : s.st = c) (hrx : s.rx = b :: rest) : BytePresent s c ∧ s.rxData = b := by
  obtain ⟨hrst, hlink, hpresent, -⟩ := hx
  exact ⟨⟨hst, hrst, hlink, by simp [State.rxValid, hpresent, hrx]⟩, by simp [State.rxData, hpresent, hrx]⟩

/-- One served cycle of a consuming state with a byte left: it performs what the state's code, its qualifier and the byte
select, and the cycles behind it are served. -/
theorem ServedFor.byte {s u : State} {c : StCode} {i : Instr} {b : Byte} {rest : List Byte} {n : Nat}
    (hs : ServedFor s (n + 1)) (hst : s.st = c) (hc : c.consuming = true) (hrx : s.rx = b :: rest)
    (hi : selectOp false false true c s.qualifier b = i) (h : Performs s i u) :
    runCycles (n + 1) s = runCycles n u.tick ∧ ServedFor u.tick n := by
  obtain ⟨hbyte, hdata⟩ := hs.serving.bytePresent hst hrx
  exact ⟨runCycles_of_performs (by rw [hbyte.operation hc, hdata, hi]) h n, hs.after h⟩

/-! ### The cycles of a frame -/

/-- `s` after the magic pair and the high byte of the length. -/
def State.atLengthLow (s : State) (hi : Byte) (rest : List Byte) : State :=
  { s.idle 3 with st := .sL1, m0ok := true, len := hi ++ 0x00#8, rx := rest }

/-- `s` after the header of a frame with a nonzero length. -/
def State.atBody (s : State) (len : Word) (rest : List Byte) : State :=
  { s.idle 4 with st := .sBody, m0ok := true, len := len, cnt := 0#16, csum := Config.csumBase, rx := rest }

/-- `s` after the rest of its body. -/
def State.afterBody (s : State) (body rest : List Byte) : State :=
  { s.idle body.length with
    st := .sVlen
    cnt := s.len
    csum := sumBodyBytes s.csum s.cnt.toNat body
    fld := storeBytes s.fld s.cnt.toNat body
    rx := rest }

/-- `s` after a frame of the given length and body, before its length is checked. -/
def State.atLengthCheck (s : State) (len : Word) (body rest : List Byte) : State :=
  { s.idle (body.length + 4) with
    st := .sVlen
    m0ok := true
    len := len
    cnt := len
    csum := sumBodyBytes Config.csumBase 0 body
    fld := storeBytes s.fld 0 body
    rx := rest }

/-- `s` after the two checks of a valid frame: its record is presented. -/
def State.presenting (s : State) : State := { s.idle 2 with st := .sEmit, ts := (s.inputsAt 1).tsIn }

/-- The record of a frame whose length is checked in this cycle, and which passes. -/
def State.nextRecord (s : State) : Record := { fields := outWords s.fld, ts := (s.inputsAt 1).tsIn }

/-- `s` after the transfer of that record. -/
def State.afterRecord (s : State) : State :=
  { s.idle 3 with st := .sM0, ts := s.nextRecord.ts, observed := s.observed ++ [.record s.nextRecord] }

/-- The magic pair and the high byte of the length take three cycles (40_sync.md R80, R81, 41_length.md R87). -/
theorem runCycles_lengthHigh {s : State} {hi : Byte} {rest : List Byte} (hst : s.st = .sM0)
    (hrx : s.rx = 0x42#8 :: 0x4D#8 :: hi :: rest) (hs : ServedFor s 3) :
    runCycles 3 s = .next (s.atLengthLow hi rest) := by
  obtain ⟨h₁, hs⟩ := hs.byte hst rfl hrx rfl (.m0Capture _ hst)
  obtain ⟨h₂, hs⟩ := hs.byte (c := .sM1) rfl rfl (congrArg List.tail hrx) rfl (.m1Match rfl)
  obtain ⟨h₃, -⟩ := hs.byte (c := .sL0) rfl rfl (congrArg (·.tail.tail) hrx) rfl (.lenHi _ rfl)
  have hrest : s.rx.drop 3 = rest := congrArg (List.drop 3) hrx
  rw [h₁, h₂, h₃]
  simp [runCycles, State.atLengthLow, State.idle, State.tick, State.rxPop, magic0Test, ← List.drop_one, hrest]

/-- Unless the whole length is zero, its low byte starts a body (41_length.md R88). -/
theorem selectOp_of_length_ne_zero {s : State} {b : Byte} (hst : s.st = .sL1) (h : setLoByte s.len b ≠ 0#16) :
    selectOp false false true .sL1 s.qualifier b = .lenLo s.qualifier b := by
  rw [selectOp_sL1, if_neg (mt (zeroLength_test_iff hst b).mp h)]

/-- The header of a frame with a nonzero length takes four cycles. -/
theorem runCycles_header {s : State} {len : Word} {rest : List Byte} (hst : s.st = .sM0) (hlen : len ≠ 0#16)
    (hrx : s.rx = frameWith len rest) (hs : ServedFor s 4) : runCycles 4 s = .next (s.atBody len rest) := by
  have hlow : setLoByte (hiByte len ++ 0x00#8) (loByte len) = len := by
    rw [setLoByte, hiByte_append, hiByte_append_loByte]
  have hhigh : runCycles 3 s = .next (s.atLengthLow (hiByte len) (loByte len :: rest)) :=
    runCycles_lengthHigh hst hrx fun j hj => hs j (by omega)
  have hs : ServedFor (s.atLengthLow (hiByte len) (loByte len :: rest)) 1 := hs.of_idle 3 rfl rfl
  have hne := hlow.trans_ne hlen
  obtain ⟨h, -⟩ := hs.byte (c := .sL1) rfl rfl rfl (selectOp_of_length_ne_zero rfl hne) (.lenLo _ _ rfl hne)
  rw [runCycles_add hhigh 1, h]
  simp [runCycles, State.atBody, State.atLengthLow, State.idle, State.tick, State.startBody, State.rxPop, hlow]

/-- A body byte that is not the last one, then the rest of the body. -/
theorem State.afterBody_cons {s : State} (b : Byte) (bs rest : List Byte) (h : s.cnt.toNat < s.len.toNat) :
    (s.rxPop.takeBodyByte b).tick.afterBody bs rest = s.afterBody (b :: bs) rest := by
  have hcnt : (s.cnt + 1#16).toNat = s.cnt.toNat + 1 := toNat_cnt_takeBodyByte (s := s) b h
  simp [State.afterBody, State.idle, hcnt, storeBytes, sumBodyBytes, Nat.add_assoc, Nat.add_comm 1]

/-- The rest of a body takes one cycle for each of its bytes (42_body.md R96, R97). -/
theorem runCycles_body {body rest : List Byte} (hne : body ≠ []) {s : State} (hst : s.st = .sBody)
    (hrx : s.rx = body ++ rest) (hcnt : s.cnt.toNat + body.length = s.len.toNat) (hs : ServedFor s body.length) :
    runCycles body.length s = .next (s.afterBody body rest) := by
  induction body generalizing s with
  | nil => exact absurd rfl hne
  | cons b bs ih =>
    obtain ⟨hbyte, hdata⟩ := hs.serving.bytePresent hst hrx
    have hop := hbyte.operation_of_sBody
    rw [List.length_cons] at hcnt
    by_cases hbs : bs = []
    · subst hbs
      have hlast : s.cnt.toNat + 1 = s.len.toNat := hcnt
      rw [if_pos hlast, hdata] at hop
      rw [List.length_singleton, runCycles_of_performs hop (.bodyLast b hst hlast)]
      have hlen : s.cnt + 1#16 = s.len :=
        BitVec.eq_of_toNat_eq ((toNat_cnt_takeBodyByte (s := s) b (by omega)).trans hlast)
      simp [runCycles, State.afterBody, State.idle, State.tick, State.takeBodyByte, State.rxPop, hlen, hrx, storeBytes,
        sumBodyBytes]
    · have hpos := List.length_pos_of_ne_nil hbs
      have hmore : s.cnt.toNat + 1 ≠ s.len.toNat := by omega
      rw [if_neg hmore, hdata] at hop
      have hp := Performs.bodyByte b hst hmore
      have hnext : (s.rxPop.takeBodyByte b).tick.cnt.toNat + bs.length = s.len.toNat := by
        have hopen : s.rxPop.cnt.toNat < s.rxPop.len.toNat := show s.cnt.toNat < s.len.toNat by omega
        rw [State.tick_cnt, toNat_cnt_takeBodyByte b hopen, State.rxPop_cnt]
        omega
      rw [List.length_cons, runCycles_of_performs hop hp, ← State.afterBody_cons b bs rest (by omega)]
      exact ih hbs hst (congrArg List.tail hrx) hnext (hs.after hp)

/-- A frame of any nonzero length is consumed whole before its length is checked, one cycle for each byte (R90). -/
theorem runCycles_frame {s : State} {len : Word} {body rest : List Byte} (hst : s.st = .sM0) (hlen : len ≠ 0#16)
    (hbody : body.length = len.toNat) (hrx : s.rx = frameWith len body ++ rest) (hs : ServedFor s (body.length + 4)) :
    runCycles (4 + body.length) s = .next (s.atLengthCheck len body rest) := by
  have hne : body ≠ [] := by
    rintro rfl
    exact hlen (BitVec.eq_of_toNat_eq hbody.symm)
  have hheader : runCycles 4 s = .next (s.atBody len (body ++ rest)) :=
    runCycles_header hst hlen hrx fun j hj => hs j (by omega)
  have hcnt : 0 + body.length = len.toNat := by rw [Nat.zero_add, hbody]
  rw [runCycles_add hheader, runCycles_body (s := s.atBody len (body ++ rest)) hne rfl rfl hcnt (hs.of_idle 4 rfl rfl)]
  simp [State.afterBody, State.atBody, State.atLengthCheck, State.idle, Nat.add_assoc, Nat.add_comm 4]

/-- A frame that passes both checks is presented with the timestamp of its acceptance (43_validate.md R101, R105). -/
theorem runCycles_checks {s : State} (hst : s.st = .sVlen) (hlen : s.len = 28#16) (hsum : s.fld[13] = s.csum)
    (hs : ServedFor s 2) : runCycles 2 s = .next s.presenting := by
  have h₁ := Performs.vlenOk hst hlen
  have hs₁ := hs.after h₁
  obtain ⟨hrst, -⟩ := hs.serving
  obtain ⟨hrst₁, -⟩ := hs₁.serving
  have hts : (State.tick { s with st := .sVsum }).inputs.tsIn = (s.inputsAt 1).tsIn :=
    congrArg CycleInput.tsIn (State.inputs_tick { s with st := .sVsum })
  rw [runCycles_of_performs ((operation_of_sVlen hst hrst).trans (if_pos hlen)) h₁,
    runCycles_of_performs ((operation_of_sVsum rfl hrst₁).trans (if_pos hsum)) (.vsumOk rfl hsum), hts]
  simp [runCycles, State.presenting, State.idle, State.tick, ← List.drop_one]

/-- A ready consumer takes the record in the next cycle (43_validate.md R109, R110). -/
theorem runCycles_accept {s : State} (hst : s.st = .sVlen) (hlen : s.len = 28#16) (hsum : s.fld[13] = s.csum)
    (hs : ServedFor s 3) : runCycles 3 s = .next s.afterRecord := by
  have hchecks := runCycles_checks hst hlen hsum fun j hj => hs j (by omega)
  have hs : ServedFor s.presenting 1 := hs.of_idle 2 rfl rfl
  obtain ⟨hrst, -, -, hready⟩ := hs.serving
  rw [runCycles_add hchecks 1, runCycles_of_performs (operation_of_ready rfl hrst hready) (.emitDone rfl)]
  simp [runCycles, State.afterRecord, State.nextRecord, State.presenting, State.emit, State.record, State.idle,
    State.tick]

theorem length_body {data : List Byte} (h : data.length = 26) (c : Word) : (data ++ wordBytes c).length = 28 := by
  rw [List.length_append, h]
  rfl

/-- `s` after the 32 bytes of a frame of 26 data bytes and the checksum field `c`. -/
def State.afterFrame (s : State) (data : List Byte) (c : Word) (rest : List Byte) : State :=
  s.atLengthCheck 28#16 (data ++ wordBytes c) rest

/-- A frame of length 28 leaves its words in the field file, its checksum field in word 13 and the checksum of its data in
the running sum (30_encoding.md R61, R72). -/
theorem registers_afterFrame (s : State) {data : List Byte} (h : data.length = 26) (c : Word) (rest : List Byte) :
    (∀ (i : Nat) (hi : i < 12), (s.afterFrame data c rest).fld[i] = bodyWord data i) ∧
    (s.afterFrame data c rest).fld[13] = c ∧ (s.afterFrame data c rest).csum = checksumOf data := by
  have words {w : Nat} (hw : w < 14) := storeBytes_getElem s.fld (length_body h c) hw
  exact ⟨fun i hi => (words (by omega)).trans (bodyWord_append (by omega) _), (words (by decide)).trans
    (bodyWord_checksum h c), sumBodyBytes_append h _⟩

theorem inputsAt_afterFrame (s : State) {data : List Byte} (h : data.length = 26) (c : Word) (rest : List Byte)
    (j : Nat) : (s.afterFrame data c rest).inputsAt j = s.inputsAt (32 + j) :=
  (s.inputsAt_idle ((data ++ wordBytes c).length + 4) j).trans (by rw [length_body h c])

/-- The 32 bytes of a frame of length 28 take 32 cycles. -/
theorem runCycles_frameOf {s : State} {data rest : List Byte} {c : Word} (hst : s.st = .sM0) (h : data.length = 26)
    (hrx : s.rx = frameOf data c ++ rest) (hs : ServedFor s 32) :
    runCycles 32 s = .next (s.afterFrame data c rest) := by
  have hframe := runCycles_frame hst (by decide) (length_body h c) hrx (by rwa [length_body h c])
  rwa [length_body h c] at hframe

/-- A frame whose checksum field is the checksum of its data is accepted: 35 cycles to the transfer of its record. -/
theorem runCycles_validFrame {s : State} {data rest : List Byte} {c : Word} (hst : s.st = .sM0)
    (h : data.length = 26) (hc : c = checksumOf data) (hrx : s.rx = frameOf data c ++ rest) (hs : ServedFor s 35) :
    runCycles 35 s = .next (s.afterFrame data c rest).afterRecord := by
  have hframe := runCycles_frameOf hst h hrx fun j hj => hs j (by omega)
  obtain ⟨-, hfield, hsum⟩ := registers_afterFrame s h c rest
  have hserved : ServedFor (s.afterFrame data c rest) 3 := fun j hj => by
    rw [inputsAt_afterFrame s h]
    exact hs (32 + j) (by omega)
  rw [runCycles_add hframe 3, runCycles_accept rfl rfl (hfield.trans (hc.trans hsum.symm)) hserved]

/-- Settles O42: the cycles of a valid frame, and what its record holds. -/
theorem validFrameYieldsItsRecord : Obligations.ValidFrameYieldsItsRecord := by
  intro s data rest hst hdata hrx hs
  obtain ⟨hwords, -⟩ := registers_afterFrame s hdata (checksumOf data) rest
  exact ⟨_, _, runCycles_validFrame hst hdata rfl hrx hs, rfl, rfl, rfl, rfl,
    congrArg CycleInput.tsIn (inputsAt_afterFrame s hdata (checksumOf data) rest 1),
    fun i hi => (getElem_outWords _ i hi).trans (hwords i hi)⟩

end Sys2Proof.Machine
end

section
/-! PROOFS. The magic detector and resynchroniser (40_sync.md): one cycle of a wait and of either byte of a pair, a pair
with waits before its bytes, and the two ways R84 gives back to a frame behind garbage. -/

namespace Sys2Proof.Machine

/-! ### The cycles of a pair -/

/-- `s` after the first byte of a pair (40_sync.md R80). -/
def State.afterFirstByte (s : State) : State := State.tick { s.rxPop with m0ok := magic0Test s.rxData, st := .sM1 }

/-- `s` after a second byte that completes the magic pair (R81). -/
def State.afterMatch (s : State) : State := State.tick { s.rxPop with st := .sL0 }

/-- `s` after any other second byte, and the flush of that cycle (R82). -/
def State.afterMismatch (s : State) : State := State.tick { s.rxPop.rxFlush with st := .sM0 }

@[simp] theorem State.afterFirstByte_m0ok (s : State) : s.afterFirstByte.m0ok = magic0Test s.rxData := rfl
@[simp] theorem State.afterFirstByte_rx (s : State) : s.afterFirstByte.rx = s.rx.tail := rfl
@[simp] theorem State.afterFirstByte_observed (s : State) : s.afterFirstByte.observed = s.observed := rfl
@[simp] theorem State.inputsAt_afterFirstByte (s : State) (j : Nat) :
    s.afterFirstByte.inputsAt j = s.inputsAt (j + 1) := State.inputsAt_tick _ j

@[simp] theorem State.afterMismatch_rx (s : State) : s.afterMismatch.rx = s.rx.tail.drop s.inputs.flushDraw := rfl
@[simp] theorem State.afterMismatch_observed (s : State) : s.afterMismatch.observed = s.observed ++ [.flushPulse] := rfl
@[simp] theorem State.inputsAt_afterMismatch (s : State) (j : Nat) :
    s.afterMismatch.inputsAt j = s.inputsAt (j + 1) := State.inputsAt_tick _ j

/-- Any first byte of a pair is captured (30_encoding.md R66, row 4). -/
theorem BytePresent.operation_of_sM0 {s : State} (h : BytePresent s .sM0) : s.operation = .m0Capture s.rxData :=
  h.operation rfl

/-- The second byte is told by `m0ok` and by its own value (R66, rows 5 and 6). -/
theorem BytePresent.operation_of_sM1 {s : State} (h : BytePresent s .sM1) :
    s.operation = if s.m0ok = true ∧ s.rxData = 0x4D#8 then .m1Match else .m1Mismatch s.m0ok s.rxData := by
  have hq : s.qualifier = s.m0ok := by
    obtain ⟨hst, -⟩ := h
    simp only [State.qualifier, hst]
  rw [h.operation rfl, hq, selectOp_sM1]
  simp only [Bool.and_eq_true, beq_iff_eq]

theorem BytePresent.step_of_sM0 {s : State} (h : BytePresent s .sM0) : step s = .next s.afterFirstByte := by
  have hop := h.operation_of_sM0
  obtain ⟨hst, -⟩ := h
  exact step_of_performs hop (.m0Capture _ hst)

theorem BytePresent.step_of_match {s : State} (h : BytePresent s .sM1) (hpair : s.m0ok = true ∧ s.rxData = 0x4D#8) :
    step s = .next s.afterMatch := by
  have hop := h.operation_of_sM1
  obtain ⟨hst, -⟩ := h
  exact step_of_performs (hop.trans (if_pos hpair)) (.m1Match hst)

theorem BytePresent.step_of_mismatch {s : State} (h : BytePresent s .sM1)
    (hpair : ¬(s.m0ok = true ∧ s.rxData = 0x4D#8)) : step s = .next s.afterMismatch := by
  have hop := h.operation_of_sM1
  obtain ⟨hst, -⟩ := h
  exact step_of_performs (hop.trans (if_neg hpair)) (.m1Mismatch _ _ hst)

/-- M0_CAPTURE is `RxPop()` and its effect (40_sync.md R80); so are M1_MATCH (R81) and M1_MISMATCH (R82) below. -/
theorem exec_m0Capture (b : Byte) (s : State) :
    exec (.m0Capture b) s = consumeByte s fun t => { t with m0ok := magic0Test b, st := .sM1 } := rfl

theorem exec_m1Match (s : State) : exec .m1Match s = consumeByte s fun t => { t with st := .sL0 } := rfl

theorem exec_m1Mismatch (q : Bool) (b : Byte) (s : State) :
    exec (.m1Mismatch q b) s = consumeByte s fun t => { t.rxFlush with st := .sM0 } := rfl

/-- After `m0ok` of its first byte, a pair passes exactly when it is the magic pair (40_sync.md R83). -/
theorem magic0Test_and_iff (b₀ b₁ : Byte) :
    (magic0Test b₀ = true ∧ b₁ = 0x4D#8) ↔ (b₀ = 0x42#8 ∧ b₁ = 0x4D#8) := by simp [magic0Test]

/-! ### The obligations of single cycles -/

/-- Settles O17: with nothing of higher priority and no byte the decode selects RX_WAIT, a hold. -/
theorem waitCycle : Obligations.WaitCycle := by
  intro s hst hup hv
  have hop := operation_of_no_byte hst hup hv
  refine ⟨hop, step_of_hold (by rw [hop]; rfl), ?_, congrArg flushes hop⟩
  rw [← Bool.not_eq_true, outputs_rxReady_iff, hop]
  decide

/-- Settles O18: one row of the decode table takes every byte value, so no case of `b` is told apart. -/
theorem firstMagicByteCycle : Obligations.FirstMagicByteCycle := fun _ h => ⟨h.operation_of_sM0, h.step_of_sM0⟩

/-- Settles O19: row 5 of the decode table takes the magic pair, row 6 every other. -/
theorem secondMagicByteCycle : Obligations.SecondMagicByteCycle := by
  intro s h
  refine ⟨fun hpair => ⟨h.operation_of_sM1.trans (if_pos hpair), h.step_of_match hpair⟩, fun hpair => ?_⟩
  have hop := h.operation_of_sM1.trans (if_neg hpair)
  exact ⟨hop, congrArg flushes hop, h.step_of_mismatch hpair⟩

/-- Settles O2: each of the three is one `RxPop()` and its effect. -/
theorem synchroniserOperationsComplete : Obligations.SynchroniserOperationsComplete := by
  intro s q b hv
  rw [exec_m0Capture, exec_m1Match, exec_m1Mismatch]
  exact ⟨consumeByte_of_rxValid _ hv, consumeByte_of_rxValid _ hv, consumeByte_of_rxValid _ hv⟩

/-! ### A byte after a wait -/

/-- The link is up for `n` cycles without a byte and in the cycle behind them, which brings one if there is one. -/
def WaitsThenByte (s : State) (n : Nat) : Prop :=
  ∀ j, j ≤ n → Up (s.inputsAt j) ∧ ((s.inputsAt j).present = true ↔ j = n)

/-- A consuming state waits for its byte unchanged (40_sync.md R79). -/
theorem WaitsThenByte.bytePresent {s : State} {n : Nat} {c : StCode} {b : Byte} {rest : List Byte}
    (h : WaitsThenByte s n) (hst : s.st = c) (hc : c.consuming = true) (hrx : s.rx = b :: rest) :
    runCycles n s = .next (s.idle n) ∧ BytePresent (s.idle n) c ∧ (s.idle n).rxData = b := by
  obtain ⟨waits, -⟩ := waitsAreUnbounded
  obtain ⟨⟨hrst, hlink⟩, hpresent⟩ := h n (Nat.le_refl n)
  have hpresent := hpresent.mpr rfl
  rw [← s.inputs_idle] at hrst hlink hpresent
  have hv : (s.idle n).rxValid = true := (State.rxValid_iff _).mpr ⟨hpresent, by simp [hrx]⟩
  obtain ⟨hdata, -⟩ := List.cons.inj ((State.rx_of_rxValid hv).symm.trans hrx)
  refine ⟨waits n s (hst ▸ hc) fun j hj => ?_, ⟨hst, hrst, hlink, hv⟩, hdata⟩
  obtain ⟨hup, hidle⟩ := h j (by omega)
  exact ⟨hup, .inl (Bool.eq_false_iff.mpr (mt hidle.mp (by omega)))⟩

/-- One more cycle behind the beginning of a run. -/
theorem runCycles_succ_of_last {n : Nat} {s t u : State} (h : runCycles n s = .next t) (hstep : step t = .next u) :
    runCycles (n + 1) s = .next u := by
  rw [runCycles_add h 1, runCycles_succ_of_step hstep]
  rfl

/-- The first byte of a pair after any wait. -/
theorem WaitsThenByte.runCycles_first {s : State} {m : Nat} {b : Byte} {rest : List Byte} (h : WaitsThenByte s m)
    (hst : s.st = .sM0) (hrx : s.rx = b :: rest) :
    runCycles (m + 1) s = .next (s.idle m).afterFirstByte ∧ (s.idle m).rxData = b := by
  obtain ⟨hwait, hbyte, hdata⟩ := h.bytePresent hst rfl hrx
  exact ⟨runCycles_succ_of_last hwait hbyte.step_of_sM0, hdata⟩

/-- The second byte after any wait: the pair test (40_sync.md R81, R82). -/
theorem WaitsThenByte.runCycles_second {s : State} {n : Nat} {b : Byte} {rest : List Byte} (h : WaitsThenByte s n)
    (hst : s.st = .sM1) (hrx : s.rx = b :: rest) :
    runCycles (n + 1) s =
      .next (if s.m0ok = true ∧ b = 0x4D#8 then (s.idle n).afterMatch else (s.idle n).afterMismatch) := by
  obtain ⟨hwait, hbyte, rfl⟩ := h.bytePresent hst rfl hrx
  split
  next hpair => exact runCycles_succ_of_last hwait (hbyte.step_of_match hpair)
  next hpair => exact runCycles_succ_of_last hwait (hbyte.step_of_mismatch hpair)

/-- Settles O41: a wait and the first byte, a wait and the second byte. -/
theorem pairTestIsStepOne : Obligations.PairTestIsStepOne := by
  intro s m n b₀ b₁ rest hst hrx hup hpresent
  have hwait₀ : WaitsThenByte s m := fun j hj =>
    ⟨hup j (by omega), (hpresent j (by omega)).trans (by omega)⟩
  obtain ⟨hfirst, hdata⟩ := hwait₀.runCycles_first hst hrx
  have hrx₁ : (s.idle m).afterFirstByte.rx = b₁ :: rest := congrArg List.tail hrx
  have hinputs (j : Nat) : (s.idle m).afterFirstByte.inputsAt j = s.inputsAt (m + (j + 1)) := by
    rw [State.inputsAt_afterFirstByte, State.inputsAt_idle]
  have hwait₁ : WaitsThenByte (s.idle m).afterFirstByte n := fun j hj => by
    rw [hinputs]
    exact ⟨hup _ (by omega), (hpresent _ (by omega)).trans (by omega)⟩
  have hrun := (runCycles_add hfirst (n + 1)).trans (hwait₁.runCycles_second rfl hrx₁)
  rw [show m + 1 + (n + 1) = m + n + 2 by omega] at hrun
  simp only [State.afterFirstByte_m0ok, hdata, magic0Test_and_iff] at hrun
  refine ⟨_, hrun, fun hpair => ?_, fun hpair => ?_⟩
  · rw [if_pos hpair]
    exact ⟨rfl, congrArg List.tail hrx₁, rfl⟩
  · rw [if_neg hpair]
    refine ⟨rfl, ?_, rfl⟩
    rw [State.afterMismatch_rx, State.inputs_idle, hinputs, State.idle_rx, hrx₁]
    rfl

/-! ### Served garbage -/

/-- A served mismatch: one pulse, and the cycles behind it are served (40_sync.md R82). -/
theorem ServedFor.mismatch {s : State} {b : Byte} {rest : List Byte} {n : Nat} (hs : ServedFor s (n + 1))
    (hst : s.st = .sM1) (hrx : s.rx = b :: rest) (hpair : ¬(s.m0ok = true ∧ b = 0x4D#8)) :
    runCycles (n + 1) s = runCycles n s.afterMismatch ∧ ServedFor s.afterMismatch n := by
  obtain ⟨hbyte, rfl⟩ := hs.serving.bytePresent hst hrx
  exact ⟨runCycles_succ_of_step (hbyte.step_of_mismatch hpair), hs.after (.m1Mismatch s.m0ok s.rxData hst)⟩

/-- A served pair that is not the magic pair: two cycles to `S_M0` again. -/
theorem ServedFor.mismatchedPair {s : State} {a b : Byte} {rest : List Byte} {n : Nat} (hs : ServedFor s (n + 2))
    (hst : s.st = .sM0) (hrx : s.rx = a :: b :: rest) (hpair : (0x42#8, 0x4D#8) ≠ (a, b)) :
    runCycles (n + 2) s = runCycles n s.afterFirstByte.afterMismatch ∧ ServedFor s.afterFirstByte.afterMismatch n := by
  obtain ⟨hbyte, rfl⟩ := hs.serving.bytePresent hst hrx
  have hs₁ : ServedFor s.afterFirstByte (n + 1) := hs.after (.m0Capture s.rxData hst)
  have hne : ¬(magic0Test s.rxData = true ∧ b = 0x4D#8) := by
    rw [magic0Test_and_iff]
    rintro ⟨ha, rfl⟩
    exact hpair (by rw [ha])
  rw [runCycles_succ_of_step hbyte.step_of_sM0]
  exact hs₁.mismatch rfl (congrArg List.tail hrx) hne

/-- Served pairs of garbage, with no magic pair among them and nothing flushed, give one pulse for each pair and leave FSYNC
at a pair position in front of what follows (40_sync.md R84). -/
theorem exists_runCycles_garbage {garbage : List (Byte × Byte)} {s : State} {rest : List Byte} {n : Nat}
    (hst : s.st = .sM0) (hmagic : (0x42#8, 0x4D#8) ∉ garbage) (hrx : s.rx = pairBytes garbage ++ rest)
    (hs : ServedFor s (n + 2 * garbage.length))
    (hdraw : ∀ j, j < 2 * garbage.length → (s.inputsAt j).flushDraw = 0) :
    ∃ t, runCycles (n + 2 * garbage.length) s = runCycles n t ∧ ServedFor t n ∧ t.st = .sM0 ∧ t.rx = rest ∧
      t.observed = s.observed ++ List.replicate garbage.length .flushPulse := by
  induction garbage generalizing s with
  | nil => exact ⟨s, rfl, hs, hst, hrx, (List.append_nil _).symm⟩
  | cons p ps ih =>
    obtain ⟨a, b⟩ := p
    obtain ⟨hpair, hps⟩ := not_or.mp (mt List.mem_cons.mpr hmagic)
    simp only [List.length_cons, Nat.mul_succ, ← Nat.add_assoc] at hs hdraw ⊢
    obtain ⟨hrun, hserved⟩ := hs.mismatchedPair hst hrx hpair
    have hrx' : s.afterFirstByte.afterMismatch.rx = pairBytes ps ++ rest := by
      have hzero : s.afterFirstByte.inputs.flushDraw = 0 := by
        rw [← State.inputsAt_zero, State.inputsAt_afterFirstByte]
        exact hdraw 1 (by omega)
      rw [State.afterMismatch_rx, hzero, State.afterFirstByte_rx, hrx]
      rfl
    obtain ⟨t, ht, hserved', hst', hrest, hobserved⟩ := ih rfl hps hrx' hserved fun j hj => by
      rw [State.inputsAt_afterMismatch, State.inputsAt_afterFirstByte]
      exact hdraw (j + 2) (by omega)
    refine ⟨t, hrun.trans ht, hserved', hst', hrest, ?_⟩
    simp [hobserved, List.replicate_succ]

/-! ### The obligations of resynchronisation -/

/-- Settles O46: the garbage by induction over its pairs, then the valid frame of O42. -/
theorem evenGarbageThenAValidFrameIsRecovered : Obligations.EvenGarbageThenAValidFrameIsRecovered := by
  intro s garbage data rest hst hmagic hdata hrx hs hdraw
  rw [Nat.add_comm] at hs ⊢
  obtain ⟨t, hgarbage, hserved, hst', hrx', hobserved⟩ := exists_runCycles_garbage hst hmagic hrx hs hdraw
  obtain ⟨u, r, hframe, hu, hrest, -, hrecord, -, hwords⟩ := validFrameYieldsItsRecord t data rest hst' hdata hrx' hserved
  exact ⟨u, r, hgarbage.trans hframe, hu, hrest, hobserved ▸ hrecord, hwords⟩

/-- Settles O60: the flush leaves the valid frame of O42 at a pair position. -/
theorem flushOfTheRestOfTheGarbageRecoversTheFrame : Obligations.FlushOfTheRestOfTheGarbageRecoversTheFrame := by
  intro s b garbage data rest hst hpair hdata hrx hdraw hs
  obtain ⟨hrun, hserved⟩ := hs.mismatch hst hrx hpair
  have hrx' : s.afterMismatch.rx = frameOf data (checksumOf data) ++ rest := by
    rw [State.afterMismatch_rx, hdraw, hrx]
    exact List.drop_left
  obtain ⟨t, r, hframe, ht, hrest, -, hrecord, -, hwords⟩ :=
    validFrameYieldsItsRecord s.afterMismatch data rest rfl hdata hrx' hserved
  exact ⟨t, r, hrun.trans hframe, ht, hrest, hrecord.trans (List.append_assoc ..), hwords⟩

end Sys2Proof.Machine
end

section
/-! PROOFS. The length parser (41_length.md): the cycles of the two length bytes, and a frame of any length, the empty
one included, up to its length check and through a failed one. -/

namespace Sys2Proof.Machine

/-! ### The operations of the length bytes -/

/-- LEN_HI is `RxPop()` and its effect (41_length.md R87); so are LEN_LO (R88) and LEN_LO_ZERO (R89) below. -/
theorem exec_lenHi (b : Byte) (s : State) :
    exec (.lenHi b) s = consumeByte s fun t => { t with len := b ++ 0x00#8, st := .sL1 } := rfl

theorem exec_lenLo (q : Bool) (b : Byte) (s : State) :
    exec (.lenLo q b) s = consumeByte s fun t => { t.startBody b with st := .sBody } := rfl

theorem exec_lenLoZero (s : State) :
    exec .lenLoZero s = consumeByte s fun t => { t.startBody 0x00#8 with st := .sVlen } := rfl

/-- Any high byte of the length is taken (30_encoding.md R66, row 7). -/
theorem BytePresent.operation_of_sL0 {s : State} (h : BytePresent s .sL0) : s.operation = .lenHi s.rxData :=
  h.operation rfl

/-- A zero length has no body to start (41_length.md R89). -/
theorem selectOp_of_length_zero {s : State} {b : Byte} (hst : s.st = .sL1) (h : setLoByte s.len b = 0#16) :
    selectOp false false true .sL1 s.qualifier b = .lenLoZero := by
  rw [selectOp_sL1, if_pos ((zeroLength_test_iff hst b).mpr h)]

/-- The low byte is told by whether it completes a zero length (R66, rows 8 and 9). -/
theorem BytePresent.operation_of_sL1 {s : State} (h : BytePresent s .sL1) :
    s.operation =
      if setLoByte s.len s.rxData = 0#16 then .lenLoZero else .lenLo (hiByte s.len == 0x00#8) s.rxData := by
  have hop := h.operation rfl
  obtain ⟨hst, -⟩ := h
  have hq : s.qualifier = (hiByte s.len == 0x00#8) := by simp only [State.qualifier, hst]
  rw [hop, ← hq]
  split
  next hlen => exact selectOp_of_length_zero hst hlen
  next hlen => exact selectOp_of_length_ne_zero hst hlen

/-- A zero length clears the whole of `len` and leaves no body to read (41_length.md R89). -/
theorem BytePresent.cycle_of_zero_length {s : State} (h : BytePresent s .sL1)
    (hlen : setLoByte s.len s.rxData = 0#16) :
    s.operation = .lenLoZero ∧ step s = .next (State.tick
      { s with len := 0#16, cnt := 0#16, csum := Config.csumBase, st := .sVlen, rx := s.rx.tail }) := by
  have hop := h.operation_of_sL1.trans (if_pos hlen)
  obtain ⟨hst, -⟩ := h
  obtain ⟨-, hb⟩ := (setLoByte_eq_zero_iff ..).mp hlen
  rw [hb] at hlen
  rw [step_of_performs hop (.lenLoZero hst hlen), State.startBody, State.rxPop_len, hlen]
  exact ⟨hop, rfl⟩

/-- Any other length starts a body (R88). -/
theorem BytePresent.cycle_of_nonzero_length {s : State} (h : BytePresent s .sL1)
    (hlen : setLoByte s.len s.rxData ≠ 0#16) :
    s.operation = .lenLo (hiByte s.len == 0x00#8) s.rxData ∧
      step s = .next (State.tick { s.rxPop.startBody s.rxData with st := .sBody }) := by
  have hop := h.operation_of_sL1.trans (if_neg hlen)
  obtain ⟨hst, -⟩ := h
  exact ⟨hop, step_of_performs hop (.lenLo _ _ hst hlen)⟩

/-! ### The obligations of single cycles -/

/-- Settles O20: one row of the decode table takes every byte value in `S_L0`. -/
theorem lengthHighByteCycle : Obligations.LengthHighByteCycle := by
  intro s h
  have hop := h.operation_of_sL0
  obtain ⟨hst, -⟩ := h
  exact ⟨hop, step_of_performs hop (.lenHi _ hst)⟩

/-- Settles O21: row 8 of the decode table takes the zero length, row 9 every other. -/
theorem lengthLowByteCycle : Obligations.LengthLowByteCycle := fun _ h =>
  ⟨fun hnonzero => h.cycle_of_nonzero_length (mt (setLoByte_eq_zero_iff ..).mp hnonzero),
    fun hzero => h.cycle_of_zero_length ((setLoByte_eq_zero_iff ..).mpr hzero)⟩

/-- Settles O3: each of the three is one `RxPop()` and its effect. -/
theorem lengthOperationsComplete : Obligations.LengthOperationsComplete := by
  intro s q b hv
  rw [exec_lenHi, exec_lenLo, exec_lenLoZero]
  exact ⟨consumeByte_of_rxValid _ hv, consumeByte_of_rxValid _ hv, consumeByte_of_rxValid _ hv⟩

/-! ### A frame of any length -/

/-- A frame of length zero has no body: its four bytes lead straight to the length check (41_length.md R89). -/
theorem runCycles_emptyFrame {s : State} {rest : List Byte} (hst : s.st = .sM0)
    (hrx : s.rx = frameWith 0#16 [] ++ rest) (hs : ServedFor s 4) :
    runCycles 4 s = .next (s.atLengthCheck 0#16 [] rest) := by
  have hhigh : runCycles 3 s = .next (s.atLengthLow 0x00#8 (0x00#8 :: rest)) :=
    runCycles_lengthHigh hst hrx fun j hj => hs j (by omega)
  have hs : ServedFor (s.atLengthLow 0x00#8 (0x00#8 :: rest)) 1 := hs.of_idle 3 rfl rfl
  obtain ⟨hbyte, hdata⟩ := hs.serving.bytePresent (c := .sL1) rfl rfl
  obtain ⟨-, hlow⟩ := hbyte.cycle_of_zero_length ((setLoByte_eq_zero_iff ..).mpr ⟨hiByte_append .., hdata⟩)
  rw [runCycles_succ_of_last hhigh hlow]
  simp [State.atLengthCheck, State.atLengthLow, State.idle, State.tick, storeBytes, sumBodyBytes]

/-- Whatever its length field says, a frame is consumed whole before its length is checked (41_length.md R90). -/
theorem runCycles_wholeFrame {s : State} {len : Word} {body rest : List Byte} (hst : s.st = .sM0)
    (hbody : body.length = len.toNat) (hrx : s.rx = frameWith len body ++ rest) (hs : ServedFor s (body.length + 4)) :
    runCycles (4 + body.length) s = .next (s.atLengthCheck len body rest) := by
  by_cases hlen : len = 0#16
  · subst hlen
    obtain rfl : body = [] := List.length_eq_zero_iff.mp hbody
    exact runCycles_emptyFrame hst hrx hs
  · exact runCycles_frame hst hlen hbody hrx hs

/-! ### The failed length check -/

/-- What VLEN_BAD leaves: the frame dropped or fault LENGTH, as LEN_POLICY says (43_validate.md R102). -/
def State.rejectLength (s : State) : State :=
  match s.lenPolicy with
  | .discard => { s with st := .sM0 }
  | .fault => s.raiseFault .length

theorem State.rejectLength_of_discard {s : State} (h : s.lenPolicy = .discard) :
    s.rejectLength = { s with st := .sM0 } := by simp only [State.rejectLength, h]

theorem State.rejectLength_of_fault {s : State} (h : s.lenPolicy = .fault) :
    s.rejectLength = s.raiseFault .length := by simp only [State.rejectLength, h]

/-- Under neither policy does the check take or flush a byte (R102). -/
@[simp] theorem State.rejectLength_rx (s : State) : s.rejectLength.rx = s.rx := by
  cases h : s.lenPolicy with
  | discard => rw [State.rejectLength_of_discard h]
  | fault => rw [State.rejectLength_of_fault h, State.raiseFault_rx]

/-- VLEN_BAD performs `State.rejectLength`. -/
theorem performs_rejectLength {s : State} (hst : s.st = .sVlen) : Performs s .vlenBad s.rejectLength := by
  cases h : s.lenPolicy with
  | discard => exact State.rejectLength_of_discard h ▸ .vlenBadDiscard hst h
  | fault => exact State.rejectLength_of_fault h ▸ .vlenBadFault hst h

/-- A length other than 28 fails the check, whatever the link and the byte inputs do (R102). -/
theorem step_of_bad_length {s : State} (hst : s.st = .sVlen) (hrst : s.inputs.rst = false) (hlen : s.len ≠ 28#16) :
    step s = .next s.rejectLength.tick :=
  step_of_performs ((operation_of_sVlen hst hrst).trans (if_neg hlen)) (performs_rejectLength hst)

/-- A frame of any length but 28 takes one cycle for each byte and one for the check it fails; its checksum is never
compared (R90, R102, R103, R110). -/
theorem runCycles_wrongLength {s : State} {len : Word} {body rest : List Byte} (hst : s.st = .sM0)
    (hlen : len ≠ 28#16) (hbody : body.length = len.toNat) (hrx : s.rx = frameWith len body ++ rest)
    (hs : ServedFor s (len.toNat + 5)) :
    runCycles (len.toNat + 5) s = .next (s.atLengthCheck len body rest).rejectLength.tick := by
  rw [← hbody] at hs ⊢
  have hframe := runCycles_wholeFrame hst hbody hrx fun j hj => hs j (by omega)
  have hcheck : ServedFor (s.atLengthCheck len body rest) 1 :=
    ServedFor.of_idle (body.length + 4) (fun j hj => hs j (by omega)) rfl rfl
  obtain ⟨hrst, -⟩ := hcheck.serving
  rw [show body.length + 5 = 4 + body.length + 1 by omega]
  exact runCycles_succ_of_last hframe (step_of_bad_length rfl hrst hlen)

/-- Settles O44: the cycles of the frame, then the registers that the failed check leaves under either policy. -/
theorem wrongLengthFrameIsConsumedWhole : Obligations.WrongLengthFrameIsConsumedWhole := by
  intro s len body rest hst hlen hbody hrx hs
  refine ⟨_, runCycles_wrongLength hst hlen hbody hrx hs, State.rejectLength_rx _, fun hpolicy => ?_,
    fun hpolicy => ?_⟩
  · rw [State.rejectLength_of_discard (s := s.atLengthCheck len body rest) hpolicy]
    exact ⟨rfl, rfl, rfl⟩
  · rw [State.rejectLength_of_fault (s := s.atLengthCheck len body rest) hpolicy]
    exact ⟨rfl, rfl, rfl⟩

end Sys2Proof.Machine
end

section
/-! PROOFS. The body reader (42_body.md): the datapaths of one body byte, its cycle, and what the checksum tells of a
changed body. -/

namespace Sys2Proof.Machine

/-! ### The datapaths of one body byte -/

/-- The word with the byte's number gets the byte in its half, every other word stays (42_body.md R92, R95). -/
theorem getElem_storeBodyByte (fld : Vector Word 14) (i : Nat) (b : Byte) {w : Nat} (hw : w < 14) :
    (storeBodyByte fld i b)[w] =
      if i / 2 = w then (if i % 2 = 0 then setHiByte fld[w] b else setLoByte fld[w] b) else fld[w] := by
  by_cases hi : i < 28
  · rw [storeBodyByte, dif_pos hi, Vector.getElem_set]
    split
    next hword => subst hword; rfl
    next => rfl
  · have hword : i / 2 ≠ w := by omega
    rw [storeBodyByte, dif_neg hi, if_neg hword]

/-- Settles O54: the number of a stored byte is below 28, since its word is one of the 14. -/
theorem unpackerIsBigEndian : Obligations.UnpackerIsBigEndian := by
  refine ⟨fun fld i b w hw => ?_, fun fld body hbody w hw => storeBytes_getElem fld hbody hw⟩
  have hstored : (i < 28 ∧ i / 2 = w) = (i / 2 = w) := propext (and_iff_right_of_imp (by omega))
  simp only [hstored]
  exact getElem_storeBodyByte fld i b hw

/-- Settles O55: the engine's own test is the rule for one byte, and 26 bytes cannot wrap the sum. -/
theorem checksumEngineIsTheIntegerFormula : Obligations.ChecksumEngineIsTheIntegerFormula :=
  ⟨fun _ _ _ => rfl, toNat_sumBodyBytes_csumBase⟩

/-! ### The operations and the cycle of one body byte -/

/-- BODY_BYTE is `RxPop()` and the datapaths (42_body.md R96); BODY_LAST goes on to the length check (R97). -/
theorem exec_bodyByte (b : Byte) (s : State) : exec (.bodyByte b) s = consumeByte s fun t => t.takeBodyByte b := rfl

theorem exec_bodyLast (b : Byte) (s : State) :
    exec (.bodyLast b) s = consumeByte s fun t => { t.takeBodyByte b with st := .sVlen } := rfl

/-- Settles O4: both are one `RxPop()` and the datapaths of the byte. -/
theorem bodyOperationsComplete : Obligations.BodyOperationsComplete := by
  intro s b hv
  rw [exec_bodyByte, exec_bodyLast]
  exact ⟨s.rxPop.takeBodyByte b, consumeByte_of_rxValid _ hv, consumeByte_of_rxValid _ hv, rfl, rfl,
    fun _ hw => getElem_storeBodyByte s.fld s.cnt.toNat b hw, rfl⟩

/-- `s` after a body byte: behind the last one stands the length check (R96, R97). -/
def State.afterBodyByte (s : State) : State :=
  State.tick { s.rxPop.takeBodyByte s.rxData with
    st := if s.cnt.toNat + 1 = s.len.toNat then .sVlen else .sBody }

theorem BytePresent.step_of_sBody {s : State} (h : BytePresent s .sBody) : step s = .next s.afterBodyByte := by
  have hop := h.operation_of_sBody
  obtain ⟨hst, -⟩ := h
  rw [State.afterBodyByte]
  split
  next hlast => exact step_of_performs (hop.trans (if_pos hlast)) (.bodyLast _ hst hlast)
  next hmore =>
    rw [step_of_performs (hop.trans (if_neg hmore)) (.bodyByte _ hst hmore), ← hst]
    rfl

/-- Settles O22: the operation, and the state it leaves, by the integer test for the last byte. -/
theorem bodyByteCycle : Obligations.BodyByteCycle := fun s h =>
  ⟨h.operation_of_sBody, s.afterBodyByte, h.step_of_sBody, rfl, rfl, rfl,
    fun _ hw => getElem_storeBodyByte s.fld s.cnt.toNat s.rxData hw, rfl⟩

/-! ### A frame that fails the comparison -/

/-- A frame of the right length whose word 13 is not the running sum is dropped silently (43_validate.md R101, R106). -/
theorem runCycles_rejectSum {s : State} (hst : s.st = .sVlen) (hlen : s.len = 28#16) (hsum : s.fld[13] ≠ s.csum)
    (hs : ServedFor s 2) : runCycles 2 s = .next { s.idle 2 with st := .sM0 } := by
  have h₁ := Performs.vlenOk hst hlen
  obtain ⟨hrst, -⟩ := hs.serving
  obtain ⟨hrst₁, -⟩ := (hs.after h₁).serving
  rw [runCycles_of_performs ((operation_of_sVlen hst hrst).trans (if_pos hlen)) h₁,
    runCycles_of_performs ((operation_of_sVsum rfl hrst₁).trans (if_neg hsum)) (.vsumBad rfl)]
  simp [runCycles, State.idle, State.tick, ← List.drop_one]

/-- A frame of length 28 with any checksum field but the checksum of its data: 34 cycles, and nothing is seen. -/
theorem runCycles_badChecksum {s : State} {data rest : List Byte} {c : Word} (hst : s.st = .sM0)
    (h : data.length = 26) (hc : c ≠ checksumOf data) (hrx : s.rx = frameOf data c ++ rest) (hs : ServedFor s 34) :
    runCycles 34 s = .next { (s.afterFrame data c rest).idle 2 with st := .sM0 } := by
  have hframe := runCycles_frameOf hst h hrx fun j hj => hs j (by omega)
  obtain ⟨-, hfield, hsum⟩ := registers_afterFrame s h c rest
  have hserved : ServedFor (s.afterFrame data c rest) 2 := fun j hj => by
    rw [inputsAt_afterFrame s h]
    exact hs (32 + j) (by omega)
  have hne : (s.afterFrame data c rest).fld[13] ≠ (s.afterFrame data c rest).csum := by rwa [hfield, hsum]
  rw [runCycles_add hframe 2, runCycles_rejectSum rfl rfl hne hserved]

/-! ### A changed body -/

/-- Replacing one byte changes the sum by the difference of the two bytes. -/
theorem sumBytes_set {bs : List Byte} {i : Nat} (h : i < bs.length) (b : Byte) :
    sumBytes (bs.set i b) + bs[i].toNat = sumBytes bs + b.toNat := by
  induction bs generalizing i with
  | nil => exact absurd h (Nat.not_lt_zero i)
  | cons x xs ih =>
    cases i with
    | zero =>
      simp only [List.set_cons_zero, List.getElem_cons_zero, sumBytes]
      omega
    | succ i =>
      have hi := ih (Nat.lt_of_succ_lt_succ h)
      simp only [List.set_cons_succ, List.getElem_cons_succ, sumBytes]
      omega

/-- Among bodies of 26 data bytes the checksum tells the sums apart, and nothing else (42_body.md R100). -/
theorem checksumOf_eq_iff {d e : List Byte} (hd : d.length ≤ 26) (he : e.length ≤ 26) :
    checksumOf d = checksumOf e ↔ sumBytes d = sumBytes e := by
  rw [← BitVec.toNat_inj, toNat_checksumOf hd, toNat_checksumOf he, checksumNat, checksumNat, Nat.add_left_cancel_iff]

/-- One changed data byte changes the checksum. -/
theorem checksumOf_set_ne {data : List Byte} (hdata : data.length ≤ 26) {i : Nat} (hi : i < data.length) {b : Byte}
    (hb : data[i] ≠ b) : checksumOf data ≠ checksumOf (data.set i b) := by
  rw [Ne, checksumOf_eq_iff hdata (by rwa [List.length_set])]
  intro heq
  have hset := sumBytes_set hi b
  exact hb (BitVec.eq_of_toNat_eq (by omega))

/-- One changed byte of a word gives the bytes of another word. -/
theorem exists_wordBytes_set (c : Word) {i : Nat} (hi : i < 2) {b : Byte} (hb : (wordBytes c)[i]? ≠ some b) :
    ∃ c', (wordBytes c).set i b = wordBytes c' ∧ c' ≠ c := by
  match i, hi with
  | 0, _ =>
    refine ⟨setHiByte c b, by simp [wordBytes], fun heq => hb (congrArg some ?_)⟩
    exact (congrArg hiByte heq).symm.trans (hiByte_setHiByte c b)
  | 1, _ =>
    refine ⟨setLoByte c b, by simp [wordBytes], fun heq => hb (congrArg some ?_)⟩
    exact (congrArg loByte heq).symm.trans (loByte_setLoByte c b)

/-- A valid body with one byte changed is again 26 data bytes and a checksum field, but no longer a valid body: either
the data has another sum, or the field has another value (42_body.md R100). -/
theorem exists_invalid_body_of_set {data : List Byte} (hdata : data.length = 26) {i : Nat} (hi : i < 28) {b : Byte}
    (hb : (data ++ wordBytes (checksumOf data))[i]? ≠ some b) :
    ∃ data' c', (data ++ wordBytes (checksumOf data)).set i b = data' ++ wordBytes c' ∧ data'.length = 26 ∧
      c' ≠ checksumOf data' := by
  by_cases hlt : i < data.length
  · rw [List.getElem?_append_left hlt, List.getElem?_eq_getElem hlt] at hb
    exact ⟨data.set i b, checksumOf data, List.set_append_left i b hlt, by rw [List.length_set, hdata],
      checksumOf_set_ne (Nat.le_of_eq hdata) hlt (mt (congrArg some) hb)⟩
  · have hle : data.length ≤ i := Nat.le_of_not_lt hlt
    rw [List.getElem?_append_right hle] at hb
    obtain ⟨c', hset, hne⟩ := exists_wordBytes_set (checksumOf data) (by omega) hb
    exact ⟨data, c', by rw [List.set_append_right i b hle, hset], hdata, hne⟩

/-- Settles O45: a changed byte leaves a frame with a bad checksum field, a cancelling change leaves a valid one. -/
theorem singleByteChangesAreDetected : Obligations.SingleByteChangesAreDetected := by
  constructor
  · intro s data rest i b hst hdata hi hb hrx hs
    obtain ⟨data', c', hbody, hdata', hne⟩ := exists_invalid_body_of_set hdata hi hb
    rw [hbody] at hrx
    exact ⟨_, runCycles_badChecksum hst hdata' hne hrx hs, rfl, rfl, rfl⟩
  · intro s data data' rest hst hdata hdata' hsum hrx hs
    have hc := (checksumOf_eq_iff (Nat.le_of_eq hdata) (Nat.le_of_eq hdata')).mpr hsum.symm
    exact ⟨_, _, runCycles_validFrame hst hdata' hc hrx hs, rfl, rfl⟩

end Sys2Proof.Machine
end

section
/-! PROOFS. Validation and output (43_validate.md): the effects of the two checks and of the transfer, their cycles, and
a frame whose checksum field is wrong. -/

namespace Sys2Proof.Machine

/-! ### The effects -/

/-- VLEN_BAD is `State.rejectLength` in every state, not only in `S_VLEN` (43_validate.md R102). -/
theorem exec_vlenBad (s : State) : exec .vlenBad s = .next s.rejectLength := rfl

/-- The failed length check, field by field under either policy (R102, 60_exceptions.md R113). -/
theorem State.rejectLength_eq_ite (s : State) :
    s.rejectLength = if s.lenPolicy = .discard then { s with st := .sM0 }
      else { s with st := .sFault, faultCode := .length, observed := s.observed ++ [.faultRose .length] } := by
  rw [State.rejectLength]
  split
  next hpolicy => exact (if_pos hpolicy).symm
  next hpolicy => exact (if_neg (by simp [hpolicy])).symm

/-- EMIT_DONE transfers the presented record and restarts step 1, in every state (43_validate.md R109). -/
theorem exec_emitDone (s : State) :
    exec .emitDone s = .next { s with st := .sM0, observed := s.observed ++ [.record s.record] } := rfl

/-- Settles O5: VLEN_BAD by LEN_POLICY, EMIT_DONE with the record of `S_EMIT`; the other three write registers only. -/
theorem validationOperationsComplete : Obligations.ValidationOperationsComplete := by
  intro s
  refine ⟨rfl, ?_, rfl, rfl, s.record, exec_emitDone s, rfl, getElem_outWords s.fld⟩
  rw [exec_vlenBad, State.rejectLength_eq_ite]

/-! ### The cycles -/

/-- Settles O23: the length alone tells VLEN_OK from VLEN_BAD, and LEN_POLICY alone what VLEN_BAD leaves. -/
theorem lengthCheckCycle : Obligations.LengthCheckCycle := by
  intro s hst hrst
  have hop := operation_of_sVlen hst hrst
  refine ⟨fun hlen => ?_, fun hlen hpolicy => ?_, fun hlen hpolicy => ?_⟩
  · rw [if_pos hlen] at hop
    exact ⟨hop, step_of_performs hop (.vlenOk hst hlen)⟩
  · rw [if_neg hlen] at hop
    exact ⟨hop, step_of_performs hop (.vlenBadDiscard hst hpolicy)⟩
  · rw [if_neg hlen] at hop
    exact ⟨hop, step_of_performs hop (.vlenBadFault hst hpolicy)⟩

/-- Settles O24: word 13 against the running sum alone tells VSUM_OK from VSUM_BAD. -/
theorem checksumCheckCycle : Obligations.ChecksumCheckCycle := by
  intro s hst hrst
  have hop := operation_of_sVsum hst hrst
  refine ⟨fun hsum => ?_, fun hsum => ?_⟩
  · rw [if_pos hsum] at hop
    exact ⟨hop, step_of_performs hop (.vsumOk hst hsum)⟩
  · rw [if_neg hsum] at hop
    exact ⟨hop, step_of_performs hop (.vsumBad hst)⟩

/-- Settles O25: the record of the state is presented, and `out_ready` alone tells the hold from the transfer. -/
theorem emitCycle : Obligations.EmitCycle := by
  intro s hst hrst
  obtain ⟨hts, hfields⟩ := outputs_of_sEmit hst
  refine ⟨beq_iff_eq.mpr hst, hts, outWords s.fld, hfields, getElem_outWords s.fld, fun hready => ?_,
    fun hready => ?_⟩
  · have hop := operation_of_not_ready hst hrst hready
    exact ⟨hop, step_of_performs hop (.emitHold hst)⟩
  · have hop := operation_of_ready hst hrst hready
    exact ⟨hop, step_of_performs hop (.emitDone hst)⟩

/-! ### A frame with a wrong checksum field -/

/-- Settles O43: 32 cycles for the bytes and two for the checks, of which the second fails. -/
theorem badChecksumFrameIsDropped : Obligations.BadChecksumFrameIsDropped :=
  fun _ _ _ _ hst hdata hc hrx hs => ⟨_, runCycles_badChecksum hst hdata hc hrx hs, rfl, rfl, rfl, rfl⟩

end Sys2Proof.Machine
end

section
/-! PROOFS. Faults and the priority of a cycle (60_exceptions.md): the operation of every state (R120), the cycle that takes
`link_err` and the cycles in `S_FAULT` (R111, R114), and all the ways into `S_FAULT` (R113, R116). -/

namespace Sys2Proof.Machine

/-! ### The operation of a cycle, by priority -/

/-- Reset has the first priority (60_exceptions.md R120). -/
theorem operation_of_rst {s : State} (hrst : s.inputs.rst = true) : s.operation = .reset := by
  simp [s.operation_eq_selectOp, selectOp, hrst]

/-- Any operation but RESET tells that there is no reset. -/
theorem rst_of_operation_ne_reset {s : State} (h : s.operation ≠ .reset) : s.inputs.rst = false :=
  Bool.eq_false_of_not_eq_true (mt operation_of_rst h)

/-- In a consuming state `link_err` comes before everything but reset, byte or no byte (R111, R120). -/
theorem operation_of_linkErr {s : State} (hst : s.st.consuming = true) (hrst : s.inputs.rst = false)
    (hlink : s.inputs.linkErr = true) : s.operation = .linkFault := by
  simp [s.operation_eq_selectOp, selectOp_of_consuming hst, hrst, hlink]

/-- In `S_FAULT` only reset is heeded (R114). -/
theorem operation_of_sFault {s : State} (hst : s.st = .sFault) (hrst : s.inputs.rst = false) :
    s.operation = .faultHold := by
  simp [s.operation_eq_selectOp, selectOp, hst, hrst]

/-- `S_EMIT` heeds `out_ready` and nothing else (43_validate.md R108, R109). -/
theorem operation_of_sEmit {s : State} (hst : s.st = .sEmit) (hrst : s.inputs.rst = false) :
    s.operation = if s.inputs.outReady then .emitDone else .emitHold := by
  split
  next hready => exact operation_of_ready hst hrst hready
  next hready => exact operation_of_not_ready hst hrst (Bool.eq_false_of_not_eq_true hready)

/-- A consuming state performs its own operation `i` only with the link up and a byte presented (R120). -/
theorem operation_of_consuming {s : State} {c : StCode} {i : Instr} (hst : s.st = c) (hc : c.consuming = true)
    (hrst : s.inputs.rst = false) (hbyte : BytePresent s c → s.operation = i) :
    s.operation = if s.inputs.linkErr then .linkFault else if s.rxValid = false then .rxWait else i := by
  subst hst
  split
  next hlink => exact operation_of_linkErr hc hrst hlink
  next hlink =>
    have hlink := Bool.eq_false_of_not_eq_true hlink
    split
    next hv => exact operation_of_no_byte hc ⟨hrst, hlink⟩ hv
    next hv => exact hbyte ⟨rfl, hrst, hlink, Bool.eq_true_of_not_eq_false hv⟩

/-- Settles O15: each state's own operation, below reset and, in the consuming states, below the link and the wait. -/
theorem cyclePriority : Obligations.CyclePriority := by
  intro s
  split
  next hrst => exact operation_of_rst hrst
  next hrst =>
    have hrst := Bool.eq_false_of_not_eq_true hrst
    cases hst : s.st with
    | sVlen => exact operation_of_sVlen hst hrst
    | sVsum => exact operation_of_sVsum hst hrst
    | sEmit => exact operation_of_sEmit hst hrst
    | sFault => exact operation_of_sFault hst hrst
    | sM0 => exact operation_of_consuming hst rfl hrst (·.operation_of_sM0)
    | sM1 => exact operation_of_consuming hst rfl hrst (·.operation_of_sM1)
    | sL0 => exact operation_of_consuming hst rfl hrst (·.operation_of_sL0)
    | sL1 =>
      refine operation_of_consuming hst rfl hrst fun h => ?_
      rw [h.operation_of_sL1]
      simp only [setLoByte_eq_zero_iff]
      rfl
    | sBody => exact operation_of_consuming hst rfl hrst (·.operation_of_sBody)

/-! ### The outputs around a fault -/

/-- Only a byte-consuming operation drives the upstream outputs (10_state.md R29). -/
theorem outputs_rx_of_not_byteConsuming {s : State} (h : s.operation.opClass ≠ .byteConsuming) :
    s.outputs.rxReady = false ∧ s.outputs.rxFlush = false := by
  obtain ⟨u, hu⟩ := exists_performs_operation s
  obtain ⟨hflush, -⟩ := hu.rx_of_not_byteConsuming h
  exact ⟨Bool.eq_false_of_not_eq_true (mt (outputs_rxReady_iff s).mp h), hflush⟩

/-- In `S_FAULT` the fault is shown, and neither handshake is driven, even in a cycle of reset (R114, R115). -/
theorem outputs_of_sFault {s : State} (hst : s.st = .sFault) :
    s.outputs.fault = true ∧ s.outputs.outValid = false ∧ s.outputs.rxReady = false ∧ s.outputs.rxFlush = false := by
  have hc : s.st.consuming = false := by rw [hst]; rfl
  refine ⟨beq_iff_eq.mpr hst, ?_, outputs_rx_of_not_byteConsuming (opClass_of_not_consuming hc)⟩
  simp [State.outputs, hst]

/-! ### The cycles of a fault -/

/-- Settles O26: LINK_FAULT is no byte-consuming operation, and the cycle behind it starts in `S_FAULT`. -/
theorem linkFaultCycle : Obligations.LinkFaultCycle := by
  intro s hst hrst hlink
  have hop := operation_of_linkErr hst hrst hlink
  obtain ⟨hready, hflush⟩ := outputs_rx_of_not_byteConsuming (s := s) (by rw [hop]; decide)
  obtain ⟨hfault, hvalid, hready', hflush'⟩ := outputs_of_sFault (s := (s.raiseFault .link).tick) rfl
  exact ⟨hop, hready, hflush, _, step_of_performs hop (.linkFault hst), rfl, hfault, rfl, hvalid, hready', hflush'⟩

/-- Settles O27: FAULT_HOLD is a hold. -/
theorem faultHoldCycle : Obligations.FaultHoldCycle := by
  intro s hst hrst
  have hop := operation_of_sFault hst hrst
  obtain ⟨hfault, -, hready, hflush⟩ := outputs_of_sFault hst
  exact ⟨hop, step_of_performs hop (.faultHold hst), hready, hflush, hfault⟩

/-- Settles O37: every cycle of the run is a FAULT_HOLD. -/
theorem faultsAreFinalUntilReset : Obligations.FaultsAreFinalUntilReset := by
  intro n s hst hreset
  refine runCycles_of_hold fun j hj => ?_
  have hrst : (s.idle j).inputs.rst = false := s.inputs_idle j ▸ hreset j hj
  rw [operation_of_sFault (s := s.idle j) hst hrst]
  rfl

/-! ### The ways into `S_FAULT` -/

/-- Two operations lead into `S_FAULT`, and both do it by `raise Fault(c)` alone (60_exceptions.md R113, R116). -/
theorem Performs.enters_sFault {s u : State} {i : Instr} (h : Performs s i u) (hs : s.st ≠ .sFault)
    (hu : u.st = .sFault) :
    (i = .linkFault ∧ s.st.consuming = true ∧ u = s.raiseFault .link) ∨
    (i = .vlenBad ∧ s.st = .sVlen ∧ s.lenPolicy = .fault ∧ u = s.raiseFault .length) := by
  cases h with
  | linkFault hst => exact .inl ⟨rfl, hst, rfl⟩
  | vlenBadFault hst hpolicy => exact .inr ⟨rfl, hst, hpolicy, rfl⟩
  | rxWait | bodyByte | emitHold | faultHold => exact absurd hu hs
  | reset | m0Capture | m1Match | m1Mismatch | lenHi | lenLo | lenLoZero | bodyLast | vlenOk | vlenBadDiscard | vsumOk
  | vsumBad | emitDone => nomatch hu

/-- With the link up and a byte presented, the own operation of every consuming state consumes it (10_state.md R17). -/
theorem selectOp_opClass_of_consuming {st : StCode} (hst : st.consuming = true) (q : Bool) (b : Byte) :
    (selectOp false false true st q b).opClass = .byteConsuming := by
  cases st with
  | sM0 | sL0 => rfl
  | sM1 => rw [selectOp_sM1]; split <;> rfl
  | sL1 => rw [selectOp_sL1]; split <;> rfl
  | sBody => cases q <;> rfl
  | sVlen | sVsum | sEmit | sFault => exact absurd hst (by decide)

/-- With the link up a consuming state never selects LINK_FAULT: it waits or consumes (R111). -/
theorem linkErr_of_operation_linkFault {s : State} (hst : s.st.consuming = true) (h : s.operation = .linkFault) :
    s.inputs.linkErr = true := by
  have hrst : s.inputs.rst = false := rst_of_operation_ne_reset (by rw [h]; nofun)
  by_contra hlink
  rw [operation_of_consuming rfl hst hrst (·.operation hst), if_neg hlink] at h
  split at h
  next => nomatch h
  next => exact absurd (selectOp_opClass_of_consuming hst _ _) (by rw [h]; decide)

/-- VLEN_BAD is selected only for a length other than 28 (43_validate.md R102). -/
theorem len_ne_of_operation_vlenBad {s : State} (hst : s.st = .sVlen) (h : s.operation = .vlenBad) : s.len ≠ 28#16 := by
  have hrst : s.inputs.rst = false := rst_of_operation_ne_reset (by rw [h]; nofun)
  intro hlen
  rw [operation_of_sVlen hst hrst, if_pos hlen] at h
  nomatch h

/-- Settles O36: the two operations that raise a fault, and why the decode selected them. -/
theorem faultsArePrecise : Obligations.FaultsArePrecise := by
  intro s t hstep hs ht
  obtain ⟨u, hu, rfl⟩ := performs_of_step hstep
  obtain ⟨hop, hst, rfl⟩ | ⟨hop, hst, hpolicy, rfl⟩ := hu.enters_sFault hs ht
  · exact ⟨_, rfl, .inl ⟨rfl, hst, linkErr_of_operation_linkFault hst hop⟩⟩
  · exact ⟨_, rfl, .inr ⟨rfl, hst, len_ne_of_operation_vlenBad hst hop, hpolicy⟩⟩

end Sys2Proof.Machine
end

section
/-! PROOFS. Reset and hazards (70_reset_and_hazards.md): the cycle of reset and the one behind it (R128, R130), a held
`link_err` (R137), the progress of every cycle but a hold (R142), and the places a quiescent run can end in (R139). -/

namespace Sys2Proof.Machine

/-! ### The effects, and reset -/

/-- Settles O1: the five meanings are single updates, or none, of the state they are called on. -/
theorem systemAndHoldOperationsComplete : Obligations.SystemAndHoldOperationsComplete :=
  fun _ => ⟨rfl, rfl, rfl, rfl, rfl⟩

theorem step_of_rst {s : State} (hrst : s.inputs.rst = true) : step s = .next s.resetRegs.tick :=
  step_of_performs (operation_of_rst hrst) .reset

/-- Settles O16: RESET stands first in the decode and is not byte-consuming, and the next cycle starts in `S_M0`. -/
theorem resetCycle : Obligations.ResetCycle := by
  intro s hrst
  have hop := operation_of_rst hrst
  obtain ⟨hready, hflush⟩ := outputs_rx_of_not_byteConsuming (s := s) (by rw [hop]; decide)
  exact ⟨hop, hready, hflush, s.resetRegs.tick, step_of_rst hrst, rfl, rfl, rfl, rfl⟩

/-- Settles O35: a reset leaves FSYNC in `S_M0`, whose operation follows the priority of a consuming state. -/
theorem firstCycleAfterReset : Obligations.FirstCycleAfterReset := by
  intro s t hrst hstep hrst'
  obtain rfl : t = s.resetRegs.tick := Host.Outcome.next.inj (hstep.symm.trans (step_of_rst hrst))
  rw [operation_of_consuming (c := .sM0) rfl rfl hrst' (·.operation_of_sM0)]
  cases s.resetRegs.tick.rxValid <;> rfl

/-! ### The inputs along a run -/

/-- No operation touches the script: the cycle behind it reads the inputs one cycle ahead (log 2). -/
theorem Performs.inputsAt_tick {s u : State} {i : Instr} (h : Performs s i u) (j : Nat) :
    u.tick.inputsAt j = s.inputsAt (j + 1) := by
  obtain ⟨-, henv, hcycle⟩ := h.parameters
  rw [State.inputsAt_tick, State.inputsAt_congr henv hcycle]

/-- Whatever `n` cycles perform, the inputs behind them are those `n` cycles ahead of the start. -/
theorem inputsAt_of_runCycles {n : Nat} {s t : State} (h : runCycles n s = .next t) (j : Nat) :
    t.inputsAt j = s.inputsAt (n + j) := by
  induction n generalizing s with
  | zero => rw [Nat.zero_add, Host.Outcome.next.inj h]
  | succ n ih =>
    obtain ⟨u, hu⟩ := exists_performs_operation s
    rw [runCycles_succ_of_step hu.step_eq] at h
    rw [ih h, hu.inputsAt_tick, Nat.add_right_comm]

/-! ### A held link error -/

/-- Without reset a held `link_err` is still high `n` cycles later (R137). -/
theorem LinkErrHeldFor.linkErr_inputsAt {s : State} {n : Nat} (hheld : LinkErrHeldFor s n) (hreset : NoResetFor s n)
    (hlink : s.inputs.linkErr = true) : (s.inputsAt n).linkErr = true := by
  induction n with
  | zero => exact hlink
  | succ n ih =>
    have hn := ih (fun j hj => hheld j (by omega)) fun j hj => hreset j (by omega)
    exact (hheld n n.lt_succ_self hn).resolve_left (by simp [hreset n n.lt_succ_self])

/-- Settles O40: in the cycle the run ends in, `link_err` is still high and a consuming state takes it. -/
theorem heldLinkErrorIsTaken : Obligations.HeldLinkErrorIsTaken := by
  intro n s t hlink hheld hreset hrun hst
  have hinputs : t.inputs = s.inputsAt n := inputsAt_of_runCycles hrun 0
  refine operation_of_linkErr hst (hinputs ▸ hreset n n.lt_succ_self) (hinputs ▸ ?_)
  exact hheld.linkErr_inputsAt (fun j hj => hreset j (by omega)) hlink

/-! ### Progress -/

/-- Validation and output are over: FSYNC is back at step 1 or stopped. -/
def State.Drained (s : State) : Prop := s.st = .sM0 ∨ s.st = .sFault

theorem State.Drained.drainRank_eq_zero {s : State} (h : s.Drained) : drainRank s.st = 0 := by
  obtain h | h := h <;> rw [h] <;> rfl

/-- A byte-consuming operation shortens the input sequence. -/
theorem Performs.rx_length_lt {s u : State} {i : Instr} (h : Performs s i u) (hi : i.opClass = .byteConsuming)
    (hv : s.rxValid = true) : u.rx.length < s.rx.length := by
  have htail : s.rx.tail.length < s.rx.length := by
    rw [State.rx_of_rxValid hv]
    exact Nat.lt_succ_self _
  rw [h.rx_of_byteConsuming hi]
  split
  next => exact Nat.lt_of_le_of_lt (List.length_drop ▸ Nat.sub_le ..) htail
  next => exact htail

/-- An operation that neither consumes a byte nor holds ends in `S_M0` or `S_FAULT` or goes on to the next check or to the
output, one cycle nearer (43_validate.md R110; R142). -/
theorem Performs.drains {s u : State} {i : Instr} (h : Performs s i u) (hbyte : i.opClass ≠ .byteConsuming)
    (hhold : i.opClass ≠ .hold) : u.Drained ∨ (0 < drainRank u.st ∧ drainRank u.st < drainRank s.st) := by
  cases h with
  | reset | vlenBadDiscard | vsumBad | emitDone => exact .inl (.inl rfl)
  | linkFault | vlenBadFault => exact .inl (.inr rfl)
  | vlenOk hst | vsumOk hst => exact .inr (by simp [hst, drainRank])
  | m0Capture | m1Match | m1Mismatch | lenHi | lenLo | lenLoZero | bodyByte | bodyLast => exact absurd rfl hbyte
  | rxWait | emitHold | faultHold => exact absurd rfl hhold

/-- Without reset and with a ready consumer the three states of validation and output neither wait nor consume. -/
theorem opClass_of_drainRank_pos {s : State} (hrank : 0 < drainRank s.st) (hrst : s.inputs.rst = false)
    (hready : s.inputs.outReady = true) : s.operation.opClass = .nonConsuming := by
  cases hst : s.st with
  | sVlen => rw [operation_of_sVlen hst hrst]; split <;> rfl
  | sVsum => rw [operation_of_sVsum hst hrst]; split <;> rfl
  | sEmit => rw [operation_of_ready hst hrst hready]; rfl
  | sM0 | sM1 | sL0 | sL1 | sBody | sFault => rw [hst] at hrank; exact absurd hrank (by decide)

/-- From validation or output FSYNC is drained within as many cycles as its rank says, and no byte is consumed (R142). -/
theorem exists_runCycles_drained {n : Nat} {s : State} (hs : s.Drained ∨ 0 < drainRank s.st) (hn : drainRank s.st ≤ n)
    (hinputs : ∀ j, j < n → (s.inputsAt j).rst = false ∧ (s.inputsAt j).outReady = true) :
    ∃ m t, m ≤ n ∧ runCycles m s = .next t ∧ t.Drained ∧ t.rx = s.rx := by
  induction n generalizing s with
  | zero => exact ⟨0, s, Nat.le_refl 0, rfl, hs.resolve_right (by omega), rfl⟩
  | succ n ih =>
    obtain hdrained | hrank := hs
    · exact ⟨0, s, Nat.zero_le _, rfl, hdrained, rfl⟩
    · obtain ⟨hrst, hready⟩ := hinputs 0 n.succ_pos
      have hclass := opClass_of_drainRank_pos hrank hrst hready
      obtain ⟨u, hu⟩ := exists_performs_operation s
      have hbyte : s.operation.opClass ≠ .byteConsuming := by rw [hclass]; decide
      have hnext := hu.drains hbyte (by rw [hclass]; decide)
      obtain ⟨-, hrx⟩ := hu.rx_of_not_byteConsuming hbyte
      have hle : drainRank u.st ≤ n := by
        obtain h | ⟨-, h⟩ := hnext
        · exact h.drainRank_eq_zero ▸ n.zero_le
        · exact Nat.le_of_lt_succ (Nat.lt_of_lt_of_le h hn)
      obtain ⟨m, t, hm, hrun, ht, hrest⟩ := ih (s := u.tick) (hnext.imp_right And.left) hle fun j hj => by
        rw [hu.inputsAt_tick]
        exact hinputs (j + 1) (Nat.succ_lt_succ hj)
      exact ⟨m + 1, t, Nat.succ_le_succ hm, (runCycles_succ_of_step hu.step_eq).trans hrun, ht, hrest.trans hrx⟩

/-- Settles O39: an operation that is no hold shortens the input or drains, and the ranks of the three states are 3, 2, 1. -/
theorem nonConsumingCyclesAreAtMostThree : Obligations.NonConsumingCyclesAreAtMostThree := by
  refine ⟨fun s t hstep hhold => ?_, fun s hst hinputs => ?_⟩
  · obtain ⟨u, hu, rfl⟩ := performs_of_step hstep
    by_cases hbyte : s.operation.opClass = .byteConsuming
    · exact .inl (hu.rx_length_lt hbyte (State.rxValid_of_byteConsuming hbyte))
    · obtain (h | h) | ⟨-, h⟩ := hu.drains hbyte hhold
      · exact .inr (.inl h)
      · exact .inr (.inr (.inl h))
      · exact .inr (.inr (.inr h))
  · have hrank : 0 < drainRank s.st ∧ drainRank s.st ≤ 3 := by
      obtain h | h | h := hst <;> rw [h] <;> decide
    obtain ⟨hpos, hle⟩ := hrank
    exact exists_runCycles_drained (.inr hpos) hle hinputs

/-! ### The operations of a quiescent cycle -/

/-- With a byte presented a consuming state consumes it (10_state.md R17). -/
theorem BytePresent.opClass {s : State} {c : StCode} (h : BytePresent s c) (hc : c.consuming = true) :
    s.operation.opClass = .byteConsuming := by
  rw [h.operation hc]
  exact selectOp_opClass_of_consuming hc _ _

theorem exists_performs_of_operation {s : State} {i : Instr} (hop : s.operation = i) : ∃ u, Performs s i u :=
  hop ▸ exists_performs_operation s

/-- The condition of RX_WAIT (40_sync.md R79). -/
theorem operation_eq_rxWait_iff (s : State) :
    s.operation = .rxWait ↔ s.st.consuming = true ∧ Up s.inputs ∧ s.rxValid = false := by
  refine ⟨fun hop => ?_, fun ⟨hst, hup, hv⟩ => operation_of_no_byte hst hup hv⟩
  have ⟨_, .rxWait hst⟩ := exists_performs_of_operation hop
  have hrst : s.inputs.rst = false := rst_of_operation_ne_reset (by rw [hop]; nofun)
  have hlink : s.inputs.linkErr = false := by
    by_contra h
    nomatch hop.symm.trans (operation_of_linkErr hst hrst (Bool.eq_true_of_not_eq_false h))
  refine ⟨hst, ⟨hrst, hlink⟩, Bool.eq_false_of_not_eq_true fun hv => ?_⟩
  have hclass := BytePresent.opClass ⟨rfl, hrst, hlink, hv⟩ hst
  rw [hop] at hclass
  nomatch hclass

/-- The condition of EMIT_HOLD (43_validate.md R108). -/
theorem operation_eq_emitHold_iff (s : State) :
    s.operation = .emitHold ↔ s.st = .sEmit ∧ s.inputs.rst = false ∧ s.inputs.outReady = false := by
  refine ⟨fun hop => ?_, fun ⟨hst, hrst, hready⟩ => operation_of_not_ready hst hrst hready⟩
  have ⟨_, .emitHold hst⟩ := exists_performs_of_operation hop
  have hrst : s.inputs.rst = false := rst_of_operation_ne_reset (by rw [hop]; nofun)
  exact ⟨hst, hrst, Bool.eq_false_of_not_eq_true fun hready =>
    nomatch hop.symm.trans (operation_of_ready hst hrst hready)⟩

/-- The condition of FAULT_HOLD (60_exceptions.md R114). -/
theorem operation_eq_faultHold_iff (s : State) :
    s.operation = .faultHold ↔ s.st = .sFault ∧ s.inputs.rst = false := by
  refine ⟨fun hop => ?_, fun ⟨hst, hrst⟩ => operation_of_sFault hst hrst⟩
  have ⟨_, .faultHold hst⟩ := exists_performs_of_operation hop
  exact ⟨hst, rst_of_operation_ne_reset (by rw [hop]; nofun)⟩

/-- `fault` is shown in `S_FAULT` and nowhere else (60_exceptions.md R115). -/
theorem outputs_fault_eq_false {s : State} (hst : s.st ≠ .sFault) : s.outputs.fault = false :=
  beq_eq_false_iff_ne.mpr hst

/-! ### Quiescence -/

/-- The three places of R139 by state and inputs. -/
theorem quiescent_iff (s : State) : Quiescent s ↔
    (s.st.consuming = true ∧ Up s.inputs ∧ s.rx = []) ∨
    (s.st = .sEmit ∧ s.inputs.rst = false ∧ NeverReady s) ∨
    (s.st = .sFault ∧ s.inputs.rst = false) := by
  rw [Quiescent, operation_eq_rxWait_iff, operation_eq_emitHold_iff, operation_eq_faultHold_iff]
  refine or_congr ?_ (or_congr_left ?_)
  · refine ⟨fun ⟨⟨hst, hup, _⟩, hrx⟩ => ⟨hst, hup, hrx⟩, fun ⟨hst, hup, hrx⟩ => ⟨⟨hst, hup, ?_⟩, hrx⟩⟩
    exact State.rxValid_eq_false (.inr hrx)
  · exact ⟨fun ⟨⟨hst, hrst, _⟩, hnever⟩ => ⟨hst, hrst, hnever⟩,
      fun ⟨hst, hrst, hnever⟩ => ⟨⟨hst, hrst, hnever 0⟩, hnever⟩⟩

/-- Settles O58: the runs of the waits of O38 and of the faults of O37 change nothing, so their last cycle starts where the
first did. -/
theorem quiescentRunsByStateAndInputs : Obligations.QuiescentRunsByStateAndInputs := by
  refine ⟨quiescent_iff, fun n s hst hrx hup => ?_, fun n s hst hreset => ?_⟩
  · obtain ⟨waits, -⟩ := waitsAreUnbounded
    refine ⟨s.idle n, waits n s hst fun j hj => ⟨hup j (by omega), .inr hrx⟩, ?_⟩
    exact (quiescent_iff _).mpr (.inl ⟨hst, s.inputs_idle n ▸ hup n n.lt_succ_self, hrx⟩)
  · refine ⟨s.idle n, faultsAreFinalUntilReset n s hst fun j hj => hreset j (by omega), ?_⟩
    exact (quiescent_iff _).mpr (.inr (.inr ⟨hst, s.inputs_idle n ▸ hreset n n.lt_succ_self⟩))

/-- Settles O59: the three operations are holds, and each is told by a condition that the named inputs end or cannot end. -/
theorem quiescentPlacesAreWaitsOrTheFault : Obligations.QuiescentPlacesAreWaitsOrTheFault := by
  refine fun s => ⟨fun hop _ => ?_, fun hop => ?_, fun hop => ?_⟩
  · obtain ⟨hst, -, -⟩ := (operation_eq_rxWait_iff s).mp hop
    refine ⟨step_of_hold (by rw [hop]; rfl), outputs_fault_eq_false fun h => ?_, fun x b ⟨hrst, hlink⟩ hpresent => ?_⟩
    · rw [h] at hst
      nomatch hst
    · exact BytePresent.opClass ⟨rfl, hrst, hlink, (State.rxValid_iff _).mpr ⟨hpresent, List.cons_ne_nil _ _⟩⟩ hst
  · obtain ⟨hst, -, -⟩ := (operation_eq_emitHold_iff s).mp hop
    refine ⟨step_of_hold (by rw [hop]; rfl), outputs_fault_eq_false (by rw [hst]; nofun), fun x hrst hready => ?_⟩
    exact operation_of_ready hst hrst hready
  · obtain ⟨hst, -⟩ := (operation_eq_faultHold_iff s).mp hop
    obtain ⟨hfault, -⟩ := outputs_of_sFault hst
    exact ⟨step_of_hold (by rw [hop]; rfl), hfault, fun x bytes hrst => operation_of_sFault hst hrst⟩

end Sys2Proof.Machine
end
